-- ==== Sys2Proof/Word.lean ====
section
/-! DEFINITION. The two word types of the machine: bytes and 16-bit words (00_scope.md R8, R10). -/

namespace Sys2Proof

/-- A byte: the CPU data width (R8). -/
abbrev Byte := BitVec 8

/-- A 16-bit word: a CPU address or the program counter (R8). -/
abbrev Word := BitVec 16

end Sys2Proof
end

