-- ==== Sys2Proof/Machine/Bits.lean ====
section
/-! DEFINITION. Bit-field, byte-order and sign-extension helpers (00_scope.md R10, 20_memory.md R112). -/

namespace Sys2Proof.Machine

/-- `{hi, lo}`: the byte at the lower address is bits 7-0 (R112). -/
def mkWord (hi lo : Byte) : Word := hi ++ lo

/-- Bits 15-8 of a word. -/
def hiByte (w : Word) : Byte := w.extractLsb' 8 8

/-- Bits 7-0 of a word. -/
def loByte (w : Word) : Byte := w.extractLsb' 0 8

/-- `zext_16` of a byte: a zero-page address (R153). -/
def zext16 (b : Byte) : Word := b.setWidth 16

/-- `sext_16` of a byte: a branch offset (R153). -/
def sext16 (b : Byte) : Word := b.signExtend 16

/-- A Bool as a bit vector of any width, 0 or 1 (R10). -/
def boolBit (n : Nat) (b : Bool) : BitVec n := if b then 1 else 0

/-- `Reverse8`: the bits of a byte in the opposite order (62_ppu.md R551). -/
def reverse8 (b : Byte) : Byte := b.reverse

/-- Apply a change of state when a condition holds. -/
def applyWhen {α : Type} (c : Bool) (f : α → α) (s : α) : α := if c then f s else s

end Sys2Proof.Machine
end

