-- ==== Sys2Proof/Syntax.lean ====
section
/-! DEFINITION. The syntax of the instruction set: one constructor of `Instr` for each of the 256 rows of the
opcode table (30_encoding.md R150 to R160, spec/opcode_table.json), with the operand byte or word of its mode.
A constructor is named after its mnemonic and mode; the opcode is added where several rows share both. -/

namespace Sys2Proof

/-- The thirteen addressing modes (R154). -/
inductive Mode where
  | imp
  | acc
  | imm
  | zp
  | zpx
  | zpy
  | abs
  | abx
  | aby
  | ind
  | izx
  | izy
  | rel
  deriving DecidableEq, Repr

/-- The number of operand bytes of a mode (R150, R157). -/
def Mode.operandBytes : Mode → Nat
  | .imp | .acc => 0
  | .imm | .zp | .zpx | .zpy | .izx | .izy | .rel => 1
  | .abs | .abx | .aby | .ind => 2

/-- The operations of the opcode table, one for each mnemonic (R151, R160). -/
inductive Operation where
  | brk | ora | jam | slo | nop | asl | php | anc | bpl | clc | jsr
  | and | rla | bit | rol | plp | bmi | sec | rti | eor | sre | lsr
  | pha | alr | jmp | bvc | cli | rts | adc | rra | ror | pla | arr
  | bvs | sei | sta | sax | sty | stx | dey | txa | xaa | bcc | sha
  | tya | txs | tas | shy | shx | ldy | lda | ldx | lax | tay | tax
  | lxa | bcs | clv | tsx | las | cpy | cmp | dcp | dec | iny | dex
  | sbx | bne | cld | cpx | sbc | isc | inc | inx | usbc | beq | sed
  deriving DecidableEq, Repr

/-- One row of the opcode table: the triple of R151 and whether the row reads `n+p` (R158, R197). -/
structure OpcodeRow where
  operation : Operation
  mode : Mode
  cycles : Nat
  paysCross : Bool
  deriving DecidableEq, Repr

/-- The instructions, those with an operand first. -/
inductive Instr where
  | oraIzx (z : Byte)
  | sloIzx (z : Byte)
  | nopZp04 (z : Byte)
  | oraZp (z : Byte)
  | aslZp (z : Byte)
  | sloZp (z : Byte)
  | oraImm (imm : Byte)
  | ancImm0B (imm : Byte)
  | nopAbs (addr : Word)
  | oraAbs (addr : Word)
  | aslAbs (addr : Word)
  | sloAbs (addr : Word)
  | bpl (rel : Byte)
  | oraIzy (z : Byte)
  | sloIzy (z : Byte)
  | nopZpx14 (z : Byte)
  | oraZpx (z : Byte)
  | aslZpx (z : Byte)
  | sloZpx (z : Byte)
  | oraAby (addr : Word)
  | sloAby (addr : Word)
  | nopAbx1C (addr : Word)
  | oraAbx (addr : Word)
  | aslAbx (addr : Word)
  | sloAbx (addr : Word)
  | jsr (addr : Word)
  | andIzx (z : Byte)
  | rlaIzx (z : Byte)
  | bitZp (z : Byte)
  | andZp (z : Byte)
  | rolZp (z : Byte)
  | rlaZp (z : Byte)
  | andImm (imm : Byte)
  | ancImm2B (imm : Byte)
  | bitAbs (addr : Word)
  | andAbs (addr : Word)
  | rolAbs (addr : Word)
  | rlaAbs (addr : Word)
  | bmi (rel : Byte)
  | andIzy (z : Byte)
  | rlaIzy (z : Byte)
  | nopZpx34 (z : Byte)
  | andZpx (z : Byte)
  | rolZpx (z : Byte)
  | rlaZpx (z : Byte)
  | andAby (addr : Word)
  | rlaAby (addr : Word)
  | nopAbx3C (addr : Word)
  | andAbx (addr : Word)
  | rolAbx (addr : Word)
  | rlaAbx (addr : Word)
  | eorIzx (z : Byte)
  | sreIzx (z : Byte)
  | nopZp44 (z : Byte)
  | eorZp (z : Byte)
  | lsrZp (z : Byte)
  | sreZp (z : Byte)
  | eorImm (imm : Byte)
  | alr (imm : Byte)
  | jmpAbs (addr : Word)
  | eorAbs (addr : Word)
  | lsrAbs (addr : Word)
  | sreAbs (addr : Word)
  | bvc (rel : Byte)
  | eorIzy (z : Byte)
  | sreIzy (z : Byte)
  | nopZpx54 (z : Byte)
  | eorZpx (z : Byte)
  | lsrZpx (z : Byte)
  | sreZpx (z : Byte)
  | eorAby (addr : Word)
  | sreAby (addr : Word)
  | nopAbx5C (addr : Word)
  | eorAbx (addr : Word)
  | lsrAbx (addr : Word)
  | sreAbx (addr : Word)
  | adcIzx (z : Byte)
  | rraIzx (z : Byte)
  | nopZp64 (z : Byte)
  | adcZp (z : Byte)
  | rorZp (z : Byte)
  | rraZp (z : Byte)
  | adcImm (imm : Byte)
  | arr (imm : Byte)
  | jmpInd (ptr : Word)
  | adcAbs (addr : Word)
  | rorAbs (addr : Word)
  | rraAbs (addr : Word)
  | bvs (rel : Byte)
  | adcIzy (z : Byte)
  | rraIzy (z : Byte)
  | nopZpx74 (z : Byte)
  | adcZpx (z : Byte)
  | rorZpx (z : Byte)
  | rraZpx (z : Byte)
  | adcAby (addr : Word)
  | rraAby (addr : Word)
  | nopAbx7C (addr : Word)
  | adcAbx (addr : Word)
  | rorAbx (addr : Word)
  | rraAbx (addr : Word)
  | nopImm80 (imm : Byte)
  | staIzx (z : Byte)
  | nopImm82 (imm : Byte)
  | saxIzx (z : Byte)
  | styZp (z : Byte)
  | staZp (z : Byte)
  | stxZp (z : Byte)
  | saxZp (z : Byte)
  | nopImm89 (imm : Byte)
  | xaa (imm : Byte)
  | styAbs (addr : Word)
  | staAbs (addr : Word)
  | stxAbs (addr : Word)
  | saxAbs (addr : Word)
  | bcc (rel : Byte)
  | staIzy (z : Byte)
  | styZpx (z : Byte)
  | staZpx (z : Byte)
  | stxZpy (z : Byte)
  | saxZpy (z : Byte)
  | staAby (addr : Word)
  | staAbx (addr : Word)
  | ldyImm (imm : Byte)
  | ldaIzx (z : Byte)
  | ldxImm (imm : Byte)
  | laxIzx (z : Byte)
  | ldyZp (z : Byte)
  | ldaZp (z : Byte)
  | ldxZp (z : Byte)
  | laxZp (z : Byte)
  | ldaImm (imm : Byte)
  | lxa (imm : Byte)
  | ldyAbs (addr : Word)
  | ldaAbs (addr : Word)
  | ldxAbs (addr : Word)
  | laxAbs (addr : Word)
  | bcs (rel : Byte)
  | ldaIzy (z : Byte)
  | laxIzy (z : Byte)
  | ldyZpx (z : Byte)
  | ldaZpx (z : Byte)
  | ldxZpy (z : Byte)
  | laxZpy (z : Byte)
  | ldaAby (addr : Word)
  | ldyAbx (addr : Word)
  | ldaAbx (addr : Word)
  | ldxAby (addr : Word)
  | laxAby (addr : Word)
  | cpyImm (imm : Byte)
  | cmpIzx (z : Byte)
  | nopImmC2 (imm : Byte)
  | dcpIzx (z : Byte)
  | cpyZp (z : Byte)
  | cmpZp (z : Byte)
  | decZp (z : Byte)
  | dcpZp (z : Byte)
  | cmpImm (imm : Byte)
  | cpyAbs (addr : Word)
  | cmpAbs (addr : Word)
  | decAbs (addr : Word)
  | dcpAbs (addr : Word)
  | bne (rel : Byte)
  | cmpIzy (z : Byte)
  | dcpIzy (z : Byte)
  | nopZpxD4 (z : Byte)
  | cmpZpx (z : Byte)
  | decZpx (z : Byte)
  | dcpZpx (z : Byte)
  | cmpAby (addr : Word)
  | dcpAby (addr : Word)
  | nopAbxDC (addr : Word)
  | cmpAbx (addr : Word)
  | decAbx (addr : Word)
  | dcpAbx (addr : Word)
  | cpxImm (imm : Byte)
  | sbcIzx (z : Byte)
  | nopImmE2 (imm : Byte)
  | iscIzx (z : Byte)
  | cpxZp (z : Byte)
  | sbcZp (z : Byte)
  | incZp (z : Byte)
  | iscZp (z : Byte)
  | sbcImm (imm : Byte)
  | cpxAbs (addr : Word)
  | sbcAbs (addr : Word)
  | incAbs (addr : Word)
  | iscAbs (addr : Word)
  | beq (rel : Byte)
  | sbcIzy (z : Byte)
  | iscIzy (z : Byte)
  | nopZpxF4 (z : Byte)
  | sbcZpx (z : Byte)
  | incZpx (z : Byte)
  | iscZpx (z : Byte)
  | sbcAby (addr : Word)
  | iscAby (addr : Word)
  | nopAbxFC (addr : Word)
  | sbcAbx (addr : Word)
  | incAbx (addr : Word)
  | iscAbx (addr : Word)
  | brk
  | jam02
  | php
  | aslAcc
  | jam12
  | clc
  | nopImp1A
  | jam22
  | plp
  | rolAcc
  | jam32
  | sec
  | nopImp3A
  | rti
  | jam42
  | pha
  | lsrAcc
  | jam52
  | cli
  | nopImp5A
  | rts
  | jam62
  | pla
  | rorAcc
  | jam72
  | sei
  | nopImp7A
  | dey
  | txa
  | jam92
  | sha93
  | tya
  | txs
  | tas
  | shy
  | shx
  | sha9F
  | tay
  | tax
  | jamB2
  | clv
  | tsx
  | las
  | iny
  | dex
  | sbx
  | jamD2
  | cld
  | nopImpDA
  | inx
  | nop
  | usbc
  | jamF2
  | sed
  | nopImpFA
  deriving DecidableEq, Repr

/-- Why a byte list is not an instruction. No opcode is illegal (R155), so only missing bytes are rejected. -/
inductive DecodeError where
  /-- There is no opcode byte. -/
  | noOpcode
  /-- The operand bytes of the opcode's mode are missing. -/
  | missingOperand (opcode : Byte)
  deriving DecidableEq, Repr

end Sys2Proof
end

