-- ==== Sys2Proof/Decode.lean ====
section
/-! DEFINITION. The opcode table (30_encoding.md R160), the decoder (R151, R152, R157) and the encoder.
Decoding is a lookup of the whole opcode byte; every opcode decodes (R155). -/

namespace Sys2Proof

open Sys2Proof.Machine (mkWord hiByte loByte)

/-! ## The table of R160, one list for each high nibble of the opcode -/

/-- Opcodes $00 to $0F (R160). -/
def opcodeRows0 : List OpcodeRow :=
  [⟨.brk, .imp, 7, false⟩,
   ⟨.ora, .izx, 6, false⟩,
   ⟨.jam, .imp, 2, false⟩,
   ⟨.slo, .izx, 8, false⟩,
   ⟨.nop, .zp, 3, false⟩,
   ⟨.ora, .zp, 3, false⟩,
   ⟨.asl, .zp, 5, false⟩,
   ⟨.slo, .zp, 5, false⟩,
   ⟨.php, .imp, 3, false⟩,
   ⟨.ora, .imm, 2, false⟩,
   ⟨.asl, .acc, 2, false⟩,
   ⟨.anc, .imm, 2, false⟩,
   ⟨.nop, .abs, 4, false⟩,
   ⟨.ora, .abs, 4, false⟩,
   ⟨.asl, .abs, 6, false⟩,
   ⟨.slo, .abs, 6, false⟩]

/-- Opcodes $10 to $1F (R160). -/
def opcodeRows1 : List OpcodeRow :=
  [⟨.bpl, .rel, 2, false⟩,
   ⟨.ora, .izy, 5, true⟩,
   ⟨.jam, .imp, 2, false⟩,
   ⟨.slo, .izy, 8, false⟩,
   ⟨.nop, .zpx, 4, false⟩,
   ⟨.ora, .zpx, 4, false⟩,
   ⟨.asl, .zpx, 6, false⟩,
   ⟨.slo, .zpx, 6, false⟩,
   ⟨.clc, .imp, 2, false⟩,
   ⟨.ora, .aby, 4, true⟩,
   ⟨.nop, .imp, 2, false⟩,
   ⟨.slo, .aby, 7, false⟩,
   ⟨.nop, .abx, 4, true⟩,
   ⟨.ora, .abx, 4, true⟩,
   ⟨.asl, .abx, 7, false⟩,
   ⟨.slo, .abx, 7, false⟩]

/-- Opcodes $20 to $2F (R160). -/
def opcodeRows2 : List OpcodeRow :=
  [⟨.jsr, .abs, 6, false⟩,
   ⟨.and, .izx, 6, false⟩,
   ⟨.jam, .imp, 2, false⟩,
   ⟨.rla, .izx, 8, false⟩,
   ⟨.bit, .zp, 3, false⟩,
   ⟨.and, .zp, 3, false⟩,
   ⟨.rol, .zp, 5, false⟩,
   ⟨.rla, .zp, 5, false⟩,
   ⟨.plp, .imp, 4, false⟩,
   ⟨.and, .imm, 2, false⟩,
   ⟨.rol, .acc, 2, false⟩,
   ⟨.anc, .imm, 2, false⟩,
   ⟨.bit, .abs, 4, false⟩,
   ⟨.and, .abs, 4, false⟩,
   ⟨.rol, .abs, 6, false⟩,
   ⟨.rla, .abs, 6, false⟩]

/-- Opcodes $30 to $3F (R160). -/
def opcodeRows3 : List OpcodeRow :=
  [⟨.bmi, .rel, 2, false⟩,
   ⟨.and, .izy, 5, true⟩,
   ⟨.jam, .imp, 2, false⟩,
   ⟨.rla, .izy, 8, false⟩,
   ⟨.nop, .zpx, 4, false⟩,
   ⟨.and, .zpx, 4, false⟩,
   ⟨.rol, .zpx, 6, false⟩,
   ⟨.rla, .zpx, 6, false⟩,
   ⟨.sec, .imp, 2, false⟩,
   ⟨.and, .aby, 4, true⟩,
   ⟨.nop, .imp, 2, false⟩,
   ⟨.rla, .aby, 7, false⟩,
   ⟨.nop, .abx, 4, true⟩,
   ⟨.and, .abx, 4, true⟩,
   ⟨.rol, .abx, 7, false⟩,
   ⟨.rla, .abx, 7, false⟩]

/-- Opcodes $40 to $4F (R160). -/
def opcodeRows4 : List OpcodeRow :=
  [⟨.rti, .imp, 6, false⟩,
   ⟨.eor, .izx, 6, false⟩,
   ⟨.jam, .imp, 2, false⟩,
   ⟨.sre, .izx, 8, false⟩,
   ⟨.nop, .zp, 3, false⟩,
   ⟨.eor, .zp, 3, false⟩,
   ⟨.lsr, .zp, 5, false⟩,
   ⟨.sre, .zp, 5, false⟩,
   ⟨.pha, .imp, 3, false⟩,
   ⟨.eor, .imm, 2, false⟩,
   ⟨.lsr, .acc, 2, false⟩,
   ⟨.alr, .imm, 2, false⟩,
   ⟨.jmp, .abs, 3, false⟩,
   ⟨.eor, .abs, 4, false⟩,
   ⟨.lsr, .abs, 6, false⟩,
   ⟨.sre, .abs, 6, false⟩]

/-- Opcodes $50 to $5F (R160). -/
def opcodeRows5 : List OpcodeRow :=
  [⟨.bvc, .rel, 2, false⟩,
   ⟨.eor, .izy, 5, true⟩,
   ⟨.jam, .imp, 2, false⟩,
   ⟨.sre, .izy, 8, false⟩,
   ⟨.nop, .zpx, 4, false⟩,
   ⟨.eor, .zpx, 4, false⟩,
   ⟨.lsr, .zpx, 6, false⟩,
   ⟨.sre, .zpx, 6, false⟩,
   ⟨.cli, .imp, 2, false⟩,
   ⟨.eor, .aby, 4, true⟩,
   ⟨.nop, .imp, 2, false⟩,
   ⟨.sre, .aby, 7, false⟩,
   ⟨.nop, .abx, 4, true⟩,
   ⟨.eor, .abx, 4, true⟩,
   ⟨.lsr, .abx, 7, false⟩,
   ⟨.sre, .abx, 7, false⟩]

/-- Opcodes $60 to $6F (R160). -/
def opcodeRows6 : List OpcodeRow :=
  [⟨.rts, .imp, 6, false⟩,
   ⟨.adc, .izx, 6, false⟩,
   ⟨.jam, .imp, 2, false⟩,
   ⟨.rra, .izx, 8, false⟩,
   ⟨.nop, .zp, 3, false⟩,
   ⟨.adc, .zp, 3, false⟩,
   ⟨.ror, .zp, 5, false⟩,
   ⟨.rra, .zp, 5, false⟩,
   ⟨.pla, .imp, 4, false⟩,
   ⟨.adc, .imm, 2, false⟩,
   ⟨.ror, .acc, 2, false⟩,
   ⟨.arr, .imm, 2, false⟩,
   ⟨.jmp, .ind, 5, false⟩,
   ⟨.adc, .abs, 4, false⟩,
   ⟨.ror, .abs, 6, false⟩,
   ⟨.rra, .abs, 6, false⟩]

/-- Opcodes $70 to $7F (R160). -/
def opcodeRows7 : List OpcodeRow :=
  [⟨.bvs, .rel, 2, false⟩,
   ⟨.adc, .izy, 5, true⟩,
   ⟨.jam, .imp, 2, false⟩,
   ⟨.rra, .izy, 8, false⟩,
   ⟨.nop, .zpx, 4, false⟩,
   ⟨.adc, .zpx, 4, false⟩,
   ⟨.ror, .zpx, 6, false⟩,
   ⟨.rra, .zpx, 6, false⟩,
   ⟨.sei, .imp, 2, false⟩,
   ⟨.adc, .aby, 4, true⟩,
   ⟨.nop, .imp, 2, false⟩,
   ⟨.rra, .aby, 7, false⟩,
   ⟨.nop, .abx, 4, true⟩,
   ⟨.adc, .abx, 4, true⟩,
   ⟨.ror, .abx, 7, false⟩,
   ⟨.rra, .abx, 7, false⟩]

/-- Opcodes $80 to $8F (R160). -/
def opcodeRows8 : List OpcodeRow :=
  [⟨.nop, .imm, 2, false⟩,
   ⟨.sta, .izx, 6, false⟩,
   ⟨.nop, .imm, 2, false⟩,
   ⟨.sax, .izx, 6, false⟩,
   ⟨.sty, .zp, 3, false⟩,
   ⟨.sta, .zp, 3, false⟩,
   ⟨.stx, .zp, 3, false⟩,
   ⟨.sax, .zp, 3, false⟩,
   ⟨.dey, .imp, 2, false⟩,
   ⟨.nop, .imm, 2, false⟩,
   ⟨.txa, .imp, 2, false⟩,
   ⟨.xaa, .imm, 2, false⟩,
   ⟨.sty, .abs, 4, false⟩,
   ⟨.sta, .abs, 4, false⟩,
   ⟨.stx, .abs, 4, false⟩,
   ⟨.sax, .abs, 4, false⟩]

/-- Opcodes $90 to $9F (R160). -/
def opcodeRows9 : List OpcodeRow :=
  [⟨.bcc, .rel, 2, false⟩,
   ⟨.sta, .izy, 6, false⟩,
   ⟨.jam, .imp, 2, false⟩,
   ⟨.sha, .imp, 2, false⟩,
   ⟨.sty, .zpx, 4, false⟩,
   ⟨.sta, .zpx, 4, false⟩,
   ⟨.stx, .zpy, 4, false⟩,
   ⟨.sax, .zpy, 4, false⟩,
   ⟨.tya, .imp, 2, false⟩,
   ⟨.sta, .aby, 5, false⟩,
   ⟨.txs, .imp, 2, false⟩,
   ⟨.tas, .imp, 2, false⟩,
   ⟨.shy, .imp, 2, false⟩,
   ⟨.sta, .abx, 5, false⟩,
   ⟨.shx, .imp, 2, false⟩,
   ⟨.sha, .imp, 2, false⟩]

/-- Opcodes $A0 to $AF (R160). -/
def opcodeRowsA : List OpcodeRow :=
  [⟨.ldy, .imm, 2, false⟩,
   ⟨.lda, .izx, 6, false⟩,
   ⟨.ldx, .imm, 2, false⟩,
   ⟨.lax, .izx, 6, false⟩,
   ⟨.ldy, .zp, 3, false⟩,
   ⟨.lda, .zp, 3, false⟩,
   ⟨.ldx, .zp, 3, false⟩,
   ⟨.lax, .zp, 3, false⟩,
   ⟨.tay, .imp, 2, false⟩,
   ⟨.lda, .imm, 2, false⟩,
   ⟨.tax, .imp, 2, false⟩,
   ⟨.lxa, .imm, 2, false⟩,
   ⟨.ldy, .abs, 4, false⟩,
   ⟨.lda, .abs, 4, false⟩,
   ⟨.ldx, .abs, 4, false⟩,
   ⟨.lax, .abs, 4, false⟩]

/-- Opcodes $B0 to $BF (R160). -/
def opcodeRowsB : List OpcodeRow :=
  [⟨.bcs, .rel, 2, false⟩,
   ⟨.lda, .izy, 5, true⟩,
   ⟨.jam, .imp, 2, false⟩,
   ⟨.lax, .izy, 5, true⟩,
   ⟨.ldy, .zpx, 4, false⟩,
   ⟨.lda, .zpx, 4, false⟩,
   ⟨.ldx, .zpy, 4, false⟩,
   ⟨.lax, .zpy, 4, false⟩,
   ⟨.clv, .imp, 2, false⟩,
   ⟨.lda, .aby, 4, true⟩,
   ⟨.tsx, .imp, 2, false⟩,
   ⟨.las, .imp, 2, false⟩,
   ⟨.ldy, .abx, 4, true⟩,
   ⟨.lda, .abx, 4, true⟩,
   ⟨.ldx, .aby, 4, true⟩,
   ⟨.lax, .aby, 4, true⟩]

/-- Opcodes $C0 to $CF (R160). -/
def opcodeRowsC : List OpcodeRow :=
  [⟨.cpy, .imm, 2, false⟩,
   ⟨.cmp, .izx, 6, false⟩,
   ⟨.nop, .imm, 2, false⟩,
   ⟨.dcp, .izx, 8, false⟩,
   ⟨.cpy, .zp, 3, false⟩,
   ⟨.cmp, .zp, 3, false⟩,
   ⟨.dec, .zp, 5, false⟩,
   ⟨.dcp, .zp, 5, false⟩,
   ⟨.iny, .imp, 2, false⟩,
   ⟨.cmp, .imm, 2, false⟩,
   ⟨.dex, .imp, 2, false⟩,
   ⟨.sbx, .imp, 2, false⟩,
   ⟨.cpy, .abs, 4, false⟩,
   ⟨.cmp, .abs, 4, false⟩,
   ⟨.dec, .abs, 6, false⟩,
   ⟨.dcp, .abs, 6, false⟩]

/-- Opcodes $D0 to $DF (R160). -/
def opcodeRowsD : List OpcodeRow :=
  [⟨.bne, .rel, 2, false⟩,
   ⟨.cmp, .izy, 5, true⟩,
   ⟨.jam, .imp, 2, false⟩,
   ⟨.dcp, .izy, 8, false⟩,
   ⟨.nop, .zpx, 4, false⟩,
   ⟨.cmp, .zpx, 4, false⟩,
   ⟨.dec, .zpx, 6, false⟩,
   ⟨.dcp, .zpx, 6, false⟩,
   ⟨.cld, .imp, 2, false⟩,
   ⟨.cmp, .aby, 4, true⟩,
   ⟨.nop, .imp, 2, false⟩,
   ⟨.dcp, .aby, 7, false⟩,
   ⟨.nop, .abx, 4, true⟩,
   ⟨.cmp, .abx, 4, true⟩,
   ⟨.dec, .abx, 7, false⟩,
   ⟨.dcp, .abx, 7, false⟩]

/-- Opcodes $E0 to $EF (R160). -/
def opcodeRowsE : List OpcodeRow :=
  [⟨.cpx, .imm, 2, false⟩,
   ⟨.sbc, .izx, 6, false⟩,
   ⟨.nop, .imm, 2, false⟩,
   ⟨.isc, .izx, 8, false⟩,
   ⟨.cpx, .zp, 3, false⟩,
   ⟨.sbc, .zp, 3, false⟩,
   ⟨.inc, .zp, 5, false⟩,
   ⟨.isc, .zp, 5, false⟩,
   ⟨.inx, .imp, 2, false⟩,
   ⟨.sbc, .imm, 2, false⟩,
   ⟨.nop, .imp, 2, false⟩,
   ⟨.usbc, .imp, 2, false⟩,
   ⟨.cpx, .abs, 4, false⟩,
   ⟨.sbc, .abs, 4, false⟩,
   ⟨.inc, .abs, 6, false⟩,
   ⟨.isc, .abs, 6, false⟩]

/-- Opcodes $F0 to $FF (R160). -/
def opcodeRowsF : List OpcodeRow :=
  [⟨.beq, .rel, 2, false⟩,
   ⟨.sbc, .izy, 5, true⟩,
   ⟨.jam, .imp, 2, false⟩,
   ⟨.isc, .izy, 8, false⟩,
   ⟨.nop, .zpx, 4, false⟩,
   ⟨.sbc, .zpx, 4, false⟩,
   ⟨.inc, .zpx, 6, false⟩,
   ⟨.isc, .zpx, 6, false⟩,
   ⟨.sed, .imp, 2, false⟩,
   ⟨.sbc, .aby, 4, true⟩,
   ⟨.nop, .imp, 2, false⟩,
   ⟨.isc, .aby, 7, false⟩,
   ⟨.nop, .abx, 4, true⟩,
   ⟨.sbc, .abx, 4, true⟩,
   ⟨.inc, .abx, 7, false⟩,
   ⟨.isc, .abx, 7, false⟩]

/-- The 256 rows (R160). -/
def opcodeTable : List OpcodeRow :=
  opcodeRows0 ++ opcodeRows1 ++ opcodeRows2 ++ opcodeRows3 ++ opcodeRows4 ++ opcodeRows5 ++ opcodeRows6 ++ opcodeRows7 ++
  opcodeRows8 ++ opcodeRows9 ++ opcodeRowsA ++ opcodeRowsB ++ opcodeRowsC ++ opcodeRowsD ++ opcodeRowsE ++ opcodeRowsF

/-- The row of an opcode (R151). -/
def opcodeRow (op : Byte) : OpcodeRow := opcodeTable.getD op.toNat ⟨.nop, .imp, 2, false⟩

/-! ## The decoder -/

/-- The instructions of opcodes $00 to $0F, from their two operand bytes (R153). -/
def instrs0 : List (Byte → Byte → Instr) :=
  [fun _ _ => .brk,
   fun b _ => .oraIzx b,
   fun _ _ => .jam02,
   fun b _ => .sloIzx b,
   fun b _ => .nopZp04 b,
   fun b _ => .oraZp b,
   fun b _ => .aslZp b,
   fun b _ => .sloZp b,
   fun _ _ => .php,
   fun b _ => .oraImm b,
   fun _ _ => .aslAcc,
   fun b _ => .ancImm0B b,
   fun b c => .nopAbs (mkWord c b),
   fun b c => .oraAbs (mkWord c b),
   fun b c => .aslAbs (mkWord c b),
   fun b c => .sloAbs (mkWord c b)]

/-- The instructions of opcodes $10 to $1F, from their two operand bytes (R153). -/
def instrs1 : List (Byte → Byte → Instr) :=
  [fun b _ => .bpl b,
   fun b _ => .oraIzy b,
   fun _ _ => .jam12,
   fun b _ => .sloIzy b,
   fun b _ => .nopZpx14 b,
   fun b _ => .oraZpx b,
   fun b _ => .aslZpx b,
   fun b _ => .sloZpx b,
   fun _ _ => .clc,
   fun b c => .oraAby (mkWord c b),
   fun _ _ => .nopImp1A,
   fun b c => .sloAby (mkWord c b),
   fun b c => .nopAbx1C (mkWord c b),
   fun b c => .oraAbx (mkWord c b),
   fun b c => .aslAbx (mkWord c b),
   fun b c => .sloAbx (mkWord c b)]

/-- The instructions of opcodes $20 to $2F, from their two operand bytes (R153). -/
def instrs2 : List (Byte → Byte → Instr) :=
  [fun b c => .jsr (mkWord c b),
   fun b _ => .andIzx b,
   fun _ _ => .jam22,
   fun b _ => .rlaIzx b,
   fun b _ => .bitZp b,
   fun b _ => .andZp b,
   fun b _ => .rolZp b,
   fun b _ => .rlaZp b,
   fun _ _ => .plp,
   fun b _ => .andImm b,
   fun _ _ => .rolAcc,
   fun b _ => .ancImm2B b,
   fun b c => .bitAbs (mkWord c b),
   fun b c => .andAbs (mkWord c b),
   fun b c => .rolAbs (mkWord c b),
   fun b c => .rlaAbs (mkWord c b)]

/-- The instructions of opcodes $30 to $3F, from their two operand bytes (R153). -/
def instrs3 : List (Byte → Byte → Instr) :=
  [fun b _ => .bmi b,
   fun b _ => .andIzy b,
   fun _ _ => .jam32,
   fun b _ => .rlaIzy b,
   fun b _ => .nopZpx34 b,
   fun b _ => .andZpx b,
   fun b _ => .rolZpx b,
   fun b _ => .rlaZpx b,
   fun _ _ => .sec,
   fun b c => .andAby (mkWord c b),
   fun _ _ => .nopImp3A,
   fun b c => .rlaAby (mkWord c b),
   fun b c => .nopAbx3C (mkWord c b),
   fun b c => .andAbx (mkWord c b),
   fun b c => .rolAbx (mkWord c b),
   fun b c => .rlaAbx (mkWord c b)]

/-- The instructions of opcodes $40 to $4F, from their two operand bytes (R153). -/
def instrs4 : List (Byte → Byte → Instr) :=
  [fun _ _ => .rti,
   fun b _ => .eorIzx b,
   fun _ _ => .jam42,
   fun b _ => .sreIzx b,
   fun b _ => .nopZp44 b,
   fun b _ => .eorZp b,
   fun b _ => .lsrZp b,
   fun b _ => .sreZp b,
   fun _ _ => .pha,
   fun b _ => .eorImm b,
   fun _ _ => .lsrAcc,
   fun b _ => .alr b,
   fun b c => .jmpAbs (mkWord c b),
   fun b c => .eorAbs (mkWord c b),
   fun b c => .lsrAbs (mkWord c b),
   fun b c => .sreAbs (mkWord c b)]

/-- The instructions of opcodes $50 to $5F, from their two operand bytes (R153). -/
def instrs5 : List (Byte → Byte → Instr) :=
  [fun b _ => .bvc b,
   fun b _ => .eorIzy b,
   fun _ _ => .jam52,
   fun b _ => .sreIzy b,
   fun b _ => .nopZpx54 b,
   fun b _ => .eorZpx b,
   fun b _ => .lsrZpx b,
   fun b _ => .sreZpx b,
   fun _ _ => .cli,
   fun b c => .eorAby (mkWord c b),
   fun _ _ => .nopImp5A,
   fun b c => .sreAby (mkWord c b),
   fun b c => .nopAbx5C (mkWord c b),
   fun b c => .eorAbx (mkWord c b),
   fun b c => .lsrAbx (mkWord c b),
   fun b c => .sreAbx (mkWord c b)]

/-- The instructions of opcodes $60 to $6F, from their two operand bytes (R153). -/
def instrs6 : List (Byte → Byte → Instr) :=
  [fun _ _ => .rts,
   fun b _ => .adcIzx b,
   fun _ _ => .jam62,
   fun b _ => .rraIzx b,
   fun b _ => .nopZp64 b,
   fun b _ => .adcZp b,
   fun b _ => .rorZp b,
   fun b _ => .rraZp b,
   fun _ _ => .pla,
   fun b _ => .adcImm b,
   fun _ _ => .rorAcc,
   fun b _ => .arr b,
   fun b c => .jmpInd (mkWord c b),
   fun b c => .adcAbs (mkWord c b),
   fun b c => .rorAbs (mkWord c b),
   fun b c => .rraAbs (mkWord c b)]

/-- The instructions of opcodes $70 to $7F, from their two operand bytes (R153). -/
def instrs7 : List (Byte → Byte → Instr) :=
  [fun b _ => .bvs b,
   fun b _ => .adcIzy b,
   fun _ _ => .jam72,
   fun b _ => .rraIzy b,
   fun b _ => .nopZpx74 b,
   fun b _ => .adcZpx b,
   fun b _ => .rorZpx b,
   fun b _ => .rraZpx b,
   fun _ _ => .sei,
   fun b c => .adcAby (mkWord c b),
   fun _ _ => .nopImp7A,
   fun b c => .rraAby (mkWord c b),
   fun b c => .nopAbx7C (mkWord c b),
   fun b c => .adcAbx (mkWord c b),
   fun b c => .rorAbx (mkWord c b),
   fun b c => .rraAbx (mkWord c b)]

/-- The instructions of opcodes $80 to $8F, from their two operand bytes (R153). -/
def instrs8 : List (Byte → Byte → Instr) :=
  [fun b _ => .nopImm80 b,
   fun b _ => .staIzx b,
   fun b _ => .nopImm82 b,
   fun b _ => .saxIzx b,
   fun b _ => .styZp b,
   fun b _ => .staZp b,
   fun b _ => .stxZp b,
   fun b _ => .saxZp b,
   fun _ _ => .dey,
   fun b _ => .nopImm89 b,
   fun _ _ => .txa,
   fun b _ => .xaa b,
   fun b c => .styAbs (mkWord c b),
   fun b c => .staAbs (mkWord c b),
   fun b c => .stxAbs (mkWord c b),
   fun b c => .saxAbs (mkWord c b)]

/-- The instructions of opcodes $90 to $9F, from their two operand bytes (R153). -/
def instrs9 : List (Byte → Byte → Instr) :=
  [fun b _ => .bcc b,
   fun b _ => .staIzy b,
   fun _ _ => .jam92,
   fun _ _ => .sha93,
   fun b _ => .styZpx b,
   fun b _ => .staZpx b,
   fun b _ => .stxZpy b,
   fun b _ => .saxZpy b,
   fun _ _ => .tya,
   fun b c => .staAby (mkWord c b),
   fun _ _ => .txs,
   fun _ _ => .tas,
   fun _ _ => .shy,
   fun b c => .staAbx (mkWord c b),
   fun _ _ => .shx,
   fun _ _ => .sha9F]

/-- The instructions of opcodes $A0 to $AF, from their two operand bytes (R153). -/
def instrsA : List (Byte → Byte → Instr) :=
  [fun b _ => .ldyImm b,
   fun b _ => .ldaIzx b,
   fun b _ => .ldxImm b,
   fun b _ => .laxIzx b,
   fun b _ => .ldyZp b,
   fun b _ => .ldaZp b,
   fun b _ => .ldxZp b,
   fun b _ => .laxZp b,
   fun _ _ => .tay,
   fun b _ => .ldaImm b,
   fun _ _ => .tax,
   fun b _ => .lxa b,
   fun b c => .ldyAbs (mkWord c b),
   fun b c => .ldaAbs (mkWord c b),
   fun b c => .ldxAbs (mkWord c b),
   fun b c => .laxAbs (mkWord c b)]

/-- The instructions of opcodes $B0 to $BF, from their two operand bytes (R153). -/
def instrsB : List (Byte → Byte → Instr) :=
  [fun b _ => .bcs b,
   fun b _ => .ldaIzy b,
   fun _ _ => .jamB2,
   fun b _ => .laxIzy b,
   fun b _ => .ldyZpx b,
   fun b _ => .ldaZpx b,
   fun b _ => .ldxZpy b,
   fun b _ => .laxZpy b,
   fun _ _ => .clv,
   fun b c => .ldaAby (mkWord c b),
   fun _ _ => .tsx,
   fun _ _ => .las,
   fun b c => .ldyAbx (mkWord c b),
   fun b c => .ldaAbx (mkWord c b),
   fun b c => .ldxAby (mkWord c b),
   fun b c => .laxAby (mkWord c b)]

/-- The instructions of opcodes $C0 to $CF, from their two operand bytes (R153). -/
def instrsC : List (Byte → Byte → Instr) :=
  [fun b _ => .cpyImm b,
   fun b _ => .cmpIzx b,
   fun b _ => .nopImmC2 b,
   fun b _ => .dcpIzx b,
   fun b _ => .cpyZp b,
   fun b _ => .cmpZp b,
   fun b _ => .decZp b,
   fun b _ => .dcpZp b,
   fun _ _ => .iny,
   fun b _ => .cmpImm b,
   fun _ _ => .dex,
   fun _ _ => .sbx,
   fun b c => .cpyAbs (mkWord c b),
   fun b c => .cmpAbs (mkWord c b),
   fun b c => .decAbs (mkWord c b),
   fun b c => .dcpAbs (mkWord c b)]

/-- The instructions of opcodes $D0 to $DF, from their two operand bytes (R153). -/
def instrsD : List (Byte → Byte → Instr) :=
  [fun b _ => .bne b,
   fun b _ => .cmpIzy b,
   fun _ _ => .jamD2,
   fun b _ => .dcpIzy b,
   fun b _ => .nopZpxD4 b,
   fun b _ => .cmpZpx b,
   fun b _ => .decZpx b,
   fun b _ => .dcpZpx b,
   fun _ _ => .cld,
   fun b c => .cmpAby (mkWord c b),
   fun _ _ => .nopImpDA,
   fun b c => .dcpAby (mkWord c b),
   fun b c => .nopAbxDC (mkWord c b),
   fun b c => .cmpAbx (mkWord c b),
   fun b c => .decAbx (mkWord c b),
   fun b c => .dcpAbx (mkWord c b)]

/-- The instructions of opcodes $E0 to $EF, from their two operand bytes (R153). -/
def instrsE : List (Byte → Byte → Instr) :=
  [fun b _ => .cpxImm b,
   fun b _ => .sbcIzx b,
   fun b _ => .nopImmE2 b,
   fun b _ => .iscIzx b,
   fun b _ => .cpxZp b,
   fun b _ => .sbcZp b,
   fun b _ => .incZp b,
   fun b _ => .iscZp b,
   fun _ _ => .inx,
   fun b _ => .sbcImm b,
   fun _ _ => .nop,
   fun _ _ => .usbc,
   fun b c => .cpxAbs (mkWord c b),
   fun b c => .sbcAbs (mkWord c b),
   fun b c => .incAbs (mkWord c b),
   fun b c => .iscAbs (mkWord c b)]

/-- The instructions of opcodes $F0 to $FF, from their two operand bytes (R153). -/
def instrsF : List (Byte → Byte → Instr) :=
  [fun b _ => .beq b,
   fun b _ => .sbcIzy b,
   fun _ _ => .jamF2,
   fun b _ => .iscIzy b,
   fun b _ => .nopZpxF4 b,
   fun b _ => .sbcZpx b,
   fun b _ => .incZpx b,
   fun b _ => .iscZpx b,
   fun _ _ => .sed,
   fun b c => .sbcAby (mkWord c b),
   fun _ _ => .nopImpFA,
   fun b c => .iscAby (mkWord c b),
   fun b c => .nopAbxFC (mkWord c b),
   fun b c => .sbcAbx (mkWord c b),
   fun b c => .incAbx (mkWord c b),
   fun b c => .iscAbx (mkWord c b)]

/-- The instruction of each opcode. -/
def instrTable : List (Byte → Byte → Instr) :=
  instrs0 ++ instrs1 ++ instrs2 ++ instrs3 ++ instrs4 ++ instrs5 ++ instrs6 ++ instrs7 ++
  instrs8 ++ instrs9 ++ instrsA ++ instrsB ++ instrsC ++ instrsD ++ instrsE ++ instrsF

/-- The instruction of an opcode with its operand bytes; a byte that its mode does not have is ignored. -/
def instrOf (op b1 b2 : Byte) : Instr := instrTable.getD op.toNat (fun _ _ => .nop) b1 b2

/-- The decoder: the first instruction of a byte list and the rest of the list (R150, R152). -/
def decode (bytes : List Byte) : Except DecodeError (Instr × List Byte) :=
  match bytes with
  | [] => .error .noOpcode
  | op :: rest =>
    match (opcodeRow op).mode.operandBytes, rest with
    | 0, rest => .ok (instrOf op 0 0, rest)
    | 1, b1 :: rest => .ok (instrOf op b1 0, rest)
    | 2, b1 :: b2 :: rest => .ok (instrOf op b1 b2, rest)
    | _, _ => .error (.missingOperand op)

/-! ## The encoder -/

/-- The bytes of an instruction: opcode, then its operand, low byte first (R150, R153, R160). -/
def encode : Instr → List Byte
  | .brk => [0x00]
  | .oraIzx b => [0x01, b]
  | .jam02 => [0x02]
  | .sloIzx b => [0x03, b]
  | .nopZp04 b => [0x04, b]
  | .oraZp b => [0x05, b]
  | .aslZp b => [0x06, b]
  | .sloZp b => [0x07, b]
  | .php => [0x08]
  | .oraImm b => [0x09, b]
  | .aslAcc => [0x0A]
  | .ancImm0B b => [0x0B, b]
  | .nopAbs w => [0x0C, loByte w, hiByte w]
  | .oraAbs w => [0x0D, loByte w, hiByte w]
  | .aslAbs w => [0x0E, loByte w, hiByte w]
  | .sloAbs w => [0x0F, loByte w, hiByte w]
  | .bpl b => [0x10, b]
  | .oraIzy b => [0x11, b]
  | .jam12 => [0x12]
  | .sloIzy b => [0x13, b]
  | .nopZpx14 b => [0x14, b]
  | .oraZpx b => [0x15, b]
  | .aslZpx b => [0x16, b]
  | .sloZpx b => [0x17, b]
  | .clc => [0x18]
  | .oraAby w => [0x19, loByte w, hiByte w]
  | .nopImp1A => [0x1A]
  | .sloAby w => [0x1B, loByte w, hiByte w]
  | .nopAbx1C w => [0x1C, loByte w, hiByte w]
  | .oraAbx w => [0x1D, loByte w, hiByte w]
  | .aslAbx w => [0x1E, loByte w, hiByte w]
  | .sloAbx w => [0x1F, loByte w, hiByte w]
  | .jsr w => [0x20, loByte w, hiByte w]
  | .andIzx b => [0x21, b]
  | .jam22 => [0x22]
  | .rlaIzx b => [0x23, b]
  | .bitZp b => [0x24, b]
  | .andZp b => [0x25, b]
  | .rolZp b => [0x26, b]
  | .rlaZp b => [0x27, b]
  | .plp => [0x28]
  | .andImm b => [0x29, b]
  | .rolAcc => [0x2A]
  | .ancImm2B b => [0x2B, b]
  | .bitAbs w => [0x2C, loByte w, hiByte w]
  | .andAbs w => [0x2D, loByte w, hiByte w]
  | .rolAbs w => [0x2E, loByte w, hiByte w]
  | .rlaAbs w => [0x2F, loByte w, hiByte w]
  | .bmi b => [0x30, b]
  | .andIzy b => [0x31, b]
  | .jam32 => [0x32]
  | .rlaIzy b => [0x33, b]
  | .nopZpx34 b => [0x34, b]
  | .andZpx b => [0x35, b]
  | .rolZpx b => [0x36, b]
  | .rlaZpx b => [0x37, b]
  | .sec => [0x38]
  | .andAby w => [0x39, loByte w, hiByte w]
  | .nopImp3A => [0x3A]
  | .rlaAby w => [0x3B, loByte w, hiByte w]
  | .nopAbx3C w => [0x3C, loByte w, hiByte w]
  | .andAbx w => [0x3D, loByte w, hiByte w]
  | .rolAbx w => [0x3E, loByte w, hiByte w]
  | .rlaAbx w => [0x3F, loByte w, hiByte w]
  | .rti => [0x40]
  | .eorIzx b => [0x41, b]
  | .jam42 => [0x42]
  | .sreIzx b => [0x43, b]
  | .nopZp44 b => [0x44, b]
  | .eorZp b => [0x45, b]
  | .lsrZp b => [0x46, b]
  | .sreZp b => [0x47, b]
  | .pha => [0x48]
  | .eorImm b => [0x49, b]
  | .lsrAcc => [0x4A]
  | .alr b => [0x4B, b]
  | .jmpAbs w => [0x4C, loByte w, hiByte w]
  | .eorAbs w => [0x4D, loByte w, hiByte w]
  | .lsrAbs w => [0x4E, loByte w, hiByte w]
  | .sreAbs w => [0x4F, loByte w, hiByte w]
  | .bvc b => [0x50, b]
  | .eorIzy b => [0x51, b]
  | .jam52 => [0x52]
  | .sreIzy b => [0x53, b]
  | .nopZpx54 b => [0x54, b]
  | .eorZpx b => [0x55, b]
  | .lsrZpx b => [0x56, b]
  | .sreZpx b => [0x57, b]
  | .cli => [0x58]
  | .eorAby w => [0x59, loByte w, hiByte w]
  | .nopImp5A => [0x5A]
  | .sreAby w => [0x5B, loByte w, hiByte w]
  | .nopAbx5C w => [0x5C, loByte w, hiByte w]
  | .eorAbx w => [0x5D, loByte w, hiByte w]
  | .lsrAbx w => [0x5E, loByte w, hiByte w]
  | .sreAbx w => [0x5F, loByte w, hiByte w]
  | .rts => [0x60]
  | .adcIzx b => [0x61, b]
  | .jam62 => [0x62]
  | .rraIzx b => [0x63, b]
  | .nopZp64 b => [0x64, b]
  | .adcZp b => [0x65, b]
  | .rorZp b => [0x66, b]
  | .rraZp b => [0x67, b]
  | .pla => [0x68]
  | .adcImm b => [0x69, b]
  | .rorAcc => [0x6A]
  | .arr b => [0x6B, b]
  | .jmpInd w => [0x6C, loByte w, hiByte w]
  | .adcAbs w => [0x6D, loByte w, hiByte w]
  | .rorAbs w => [0x6E, loByte w, hiByte w]
  | .rraAbs w => [0x6F, loByte w, hiByte w]
  | .bvs b => [0x70, b]
  | .adcIzy b => [0x71, b]
  | .jam72 => [0x72]
  | .rraIzy b => [0x73, b]
  | .nopZpx74 b => [0x74, b]
  | .adcZpx b => [0x75, b]
  | .rorZpx b => [0x76, b]
  | .rraZpx b => [0x77, b]
  | .sei => [0x78]
  | .adcAby w => [0x79, loByte w, hiByte w]
  | .nopImp7A => [0x7A]
  | .rraAby w => [0x7B, loByte w, hiByte w]
  | .nopAbx7C w => [0x7C, loByte w, hiByte w]
  | .adcAbx w => [0x7D, loByte w, hiByte w]
  | .rorAbx w => [0x7E, loByte w, hiByte w]
  | .rraAbx w => [0x7F, loByte w, hiByte w]
  | .nopImm80 b => [0x80, b]
  | .staIzx b => [0x81, b]
  | .nopImm82 b => [0x82, b]
  | .saxIzx b => [0x83, b]
  | .styZp b => [0x84, b]
  | .staZp b => [0x85, b]
  | .stxZp b => [0x86, b]
  | .saxZp b => [0x87, b]
  | .dey => [0x88]
  | .nopImm89 b => [0x89, b]
  | .txa => [0x8A]
  | .xaa b => [0x8B, b]
  | .styAbs w => [0x8C, loByte w, hiByte w]
  | .staAbs w => [0x8D, loByte w, hiByte w]
  | .stxAbs w => [0x8E, loByte w, hiByte w]
  | .saxAbs w => [0x8F, loByte w, hiByte w]
  | .bcc b => [0x90, b]
  | .staIzy b => [0x91, b]
  | .jam92 => [0x92]
  | .sha93 => [0x93]
  | .styZpx b => [0x94, b]
  | .staZpx b => [0x95, b]
  | .stxZpy b => [0x96, b]
  | .saxZpy b => [0x97, b]
  | .tya => [0x98]
  | .staAby w => [0x99, loByte w, hiByte w]
  | .txs => [0x9A]
  | .tas => [0x9B]
  | .shy => [0x9C]
  | .staAbx w => [0x9D, loByte w, hiByte w]
  | .shx => [0x9E]
  | .sha9F => [0x9F]
  | .ldyImm b => [0xA0, b]
  | .ldaIzx b => [0xA1, b]
  | .ldxImm b => [0xA2, b]
  | .laxIzx b => [0xA3, b]
  | .ldyZp b => [0xA4, b]
  | .ldaZp b => [0xA5, b]
  | .ldxZp b => [0xA6, b]
  | .laxZp b => [0xA7, b]
  | .tay => [0xA8]
  | .ldaImm b => [0xA9, b]
  | .tax => [0xAA]
  | .lxa b => [0xAB, b]
  | .ldyAbs w => [0xAC, loByte w, hiByte w]
  | .ldaAbs w => [0xAD, loByte w, hiByte w]
  | .ldxAbs w => [0xAE, loByte w, hiByte w]
  | .laxAbs w => [0xAF, loByte w, hiByte w]
  | .bcs b => [0xB0, b]
  | .ldaIzy b => [0xB1, b]
  | .jamB2 => [0xB2]
  | .laxIzy b => [0xB3, b]
  | .ldyZpx b => [0xB4, b]
  | .ldaZpx b => [0xB5, b]
  | .ldxZpy b => [0xB6, b]
  | .laxZpy b => [0xB7, b]
  | .clv => [0xB8]
  | .ldaAby w => [0xB9, loByte w, hiByte w]
  | .tsx => [0xBA]
  | .las => [0xBB]
  | .ldyAbx w => [0xBC, loByte w, hiByte w]
  | .ldaAbx w => [0xBD, loByte w, hiByte w]
  | .ldxAby w => [0xBE, loByte w, hiByte w]
  | .laxAby w => [0xBF, loByte w, hiByte w]
  | .cpyImm b => [0xC0, b]
  | .cmpIzx b => [0xC1, b]
  | .nopImmC2 b => [0xC2, b]
  | .dcpIzx b => [0xC3, b]
  | .cpyZp b => [0xC4, b]
  | .cmpZp b => [0xC5, b]
  | .decZp b => [0xC6, b]
  | .dcpZp b => [0xC7, b]
  | .iny => [0xC8]
  | .cmpImm b => [0xC9, b]
  | .dex => [0xCA]
  | .sbx => [0xCB]
  | .cpyAbs w => [0xCC, loByte w, hiByte w]
  | .cmpAbs w => [0xCD, loByte w, hiByte w]
  | .decAbs w => [0xCE, loByte w, hiByte w]
  | .dcpAbs w => [0xCF, loByte w, hiByte w]
  | .bne b => [0xD0, b]
  | .cmpIzy b => [0xD1, b]
  | .jamD2 => [0xD2]
  | .dcpIzy b => [0xD3, b]
  | .nopZpxD4 b => [0xD4, b]
  | .cmpZpx b => [0xD5, b]
  | .decZpx b => [0xD6, b]
  | .dcpZpx b => [0xD7, b]
  | .cld => [0xD8]
  | .cmpAby w => [0xD9, loByte w, hiByte w]
  | .nopImpDA => [0xDA]
  | .dcpAby w => [0xDB, loByte w, hiByte w]
  | .nopAbxDC w => [0xDC, loByte w, hiByte w]
  | .cmpAbx w => [0xDD, loByte w, hiByte w]
  | .decAbx w => [0xDE, loByte w, hiByte w]
  | .dcpAbx w => [0xDF, loByte w, hiByte w]
  | .cpxImm b => [0xE0, b]
  | .sbcIzx b => [0xE1, b]
  | .nopImmE2 b => [0xE2, b]
  | .iscIzx b => [0xE3, b]
  | .cpxZp b => [0xE4, b]
  | .sbcZp b => [0xE5, b]
  | .incZp b => [0xE6, b]
  | .iscZp b => [0xE7, b]
  | .inx => [0xE8]
  | .sbcImm b => [0xE9, b]
  | .nop => [0xEA]
  | .usbc => [0xEB]
  | .cpxAbs w => [0xEC, loByte w, hiByte w]
  | .sbcAbs w => [0xED, loByte w, hiByte w]
  | .incAbs w => [0xEE, loByte w, hiByte w]
  | .iscAbs w => [0xEF, loByte w, hiByte w]
  | .beq b => [0xF0, b]
  | .sbcIzy b => [0xF1, b]
  | .jamF2 => [0xF2]
  | .iscIzy b => [0xF3, b]
  | .nopZpxF4 b => [0xF4, b]
  | .sbcZpx b => [0xF5, b]
  | .incZpx b => [0xF6, b]
  | .iscZpx b => [0xF7, b]
  | .sed => [0xF8]
  | .sbcAby w => [0xF9, loByte w, hiByte w]
  | .nopImpFA => [0xFA]
  | .iscAby w => [0xFB, loByte w, hiByte w]
  | .nopAbxFC w => [0xFC, loByte w, hiByte w]
  | .sbcAbx w => [0xFD, loByte w, hiByte w]
  | .incAbx w => [0xFE, loByte w, hiByte w]
  | .iscAbx w => [0xFF, loByte w, hiByte w]

/-! ## What the table says of an instruction -/

/-- The opcode byte. -/
def Instr.opcode (i : Instr) : Byte := (encode i).headD 0

/-- The first operand byte, 0 when there is none. -/
def Instr.operand1 (i : Instr) : Byte := (encode i).getD 1 0

/-- The second operand byte, 0 when there is none. -/
def Instr.operand2 (i : Instr) : Byte := (encode i).getD 2 0

/-- The row of R160. -/
def Instr.row (i : Instr) : OpcodeRow := opcodeRow i.opcode

/-- The operation (R151). -/
def Instr.operation (i : Instr) : Operation := i.row.operation

/-- The addressing mode (R151). -/
def Instr.mode (i : Instr) : Mode := i.row.mode

/-- The length in bytes (R157). -/
def Instr.length (i : Instr) : Nat := i.mode.operandBytes + 1

/-! ## Words as the opcode table numbers their bits -/

/-- The low `nbits` bits of `w` as three bytes, the first byte the least significant. -/
def tableBytes (nbits w : Nat) : List Byte :=
  let v := w % 2 ^ nbits
  [BitVec.ofNat 8 v, BitVec.ofNat 8 (v / 256), BitVec.ofNat 8 (v / 65536)]

/-- The instruction that the decoder reads from a word of the opcode table. -/
def decodeTableWord (nbits w : Nat) : Option Instr :=
  match decode (tableBytes nbits w) with
  | .ok r => some r.1
  | .error _ => none

end Sys2Proof
end

