-- ==== Sys2Proof/Config.lean ====
section
/-! DEFINITION. The named parameters of 00_scope.md R9 that an implementation fixes.
`Config` is plain data and stands in the machine's state, so that a theorem about every state holds for every
value of every parameter; no step changes it (10_state.md R75).
The values that the reset state carries are named in notes/assumptions/2.md (DESIGN CHOICE).
`systemPalette` and `saveVersion` have no body: the spec lists no entry of the palette (91_not_in_source.md N1) and
no version of the save format (61_bus_clocking.md R481). -/

namespace Sys2Proof

/-- `APU_FRAME_SCALE`: the unit of the frame-sequencer step times, 1 or 2 (R9, D35). -/
inductive FrameScale where
  | one
  | two
  deriving DecidableEq, Repr

/-- The OPEN parameters of R9 that the machine's behaviour depends on. -/
structure Config where
  /-- `APU_FRAME_SCALE` (D35). -/
  apuFrameScale : FrameScale
  /-- `PULSE_SWEEP_MUTE` (D39). -/
  pulseSweepMute : Bool
  /-- `MMC3_A12_DEBOUNCE`, in CPU cycles (D33). -/
  mmc3A12Debounce : Nat
  deriving DecidableEq, Repr

/-- The parameters of the reset state: the source's values for the first two and a value of the suggested
range 8..10 for the third. DESIGN CHOICE, unsafe (notes/assumptions/2.md); no statement rests on them. -/
def Config.initial : Config :=
  { apuFrameScale := .one, pulseSweepMute := false, mmc3A12Debounce := 8 }

/-- A displayed colour, "an sRGB triple" (91_not_in_source.md N1). That each channel has 8 bits is the model's choice:
the spec gives the triple no width. DESIGN CHOICE, safe (notes/assumptions/19.md). -/
structure Rgb where
  red : Byte
  green : Byte
  blue : Byte
  deriving DecidableEq, Repr, Inhabited

/-- `SYSTEM_PALETTE`: the colour of each 6-bit index (R9, N1, U19); a free value, the spec gives no entry. -/
opaque Config.systemPalette : BitVec 6 → Rgb

/-- The version of the save states that this implementation writes and accepts; a free value, the spec says
"versioned" and no more (61_bus_clocking.md R481, notes/assumptions/13.md). -/
opaque Config.saveVersion : Nat

end Sys2Proof
end

