-- ==== Sys2Proof/Machine/Memory.lean ====
section
/-! DEFINITION. Sparse memories as sorted lists in one canonical form.
Keys are strictly rising and no entry holds the value that an unlisted key reads as, so equal memories are equal
lists. The memories of the machine are byte memories over their own index ranges (20_memory.md R102, R103,
62_ppu.md R510); the frame (10_state.md R57) is a list of the same form over pixels. -/

namespace Sys2Proof.Machine

/-- The value at a key, `d` when the key is not listed. -/
def cellRead {α : Type} (d : α) : List (Nat × α) → Nat → α
  | [], _ => d
  | (k, v) :: rest, a => if a < k then d else if a = k then v else cellRead d rest a

/-- The list with the value at a key replaced, in canonical form. -/
def cellWrite {α : Type} [DecidableEq α] (d : α) : List (Nat × α) → Nat → α → List (Nat × α)
  | [], a, x => if x = d then [] else [(a, x)]
  | (k, v) :: rest, a, x =>
    if a < k then (if x = d then (k, v) :: rest else (a, x) :: (k, v) :: rest)
    else if a = k then (if x = d then rest else (a, x) :: rest)
    else (k, v) :: cellWrite d rest a x

/-- Every key of the list is at least `lo`, the keys rise strictly and no value is the unlisted one. -/
def cellsWfFrom {α : Type} [DecidableEq α] (d : α) : Nat → List (Nat × α) → Bool
  | _, [] => true
  | lo, (k, v) :: rest => decide (lo ≤ k) && (decide (v ≠ d) && cellsWfFrom d (k + 1) rest)

/-- The canonical form. -/
def cellsWf {α : Type} [DecidableEq α] (d : α) (m : List (Nat × α)) : Bool := cellsWfFrom d 0 m

/-- A byte memory: a list of (index, byte) pairs in canonical form. -/
abbrev Memory := List Host.Cell

/-- What an unlisted cell of a byte memory reads as. DESIGN CHOICE, unsafe: the spec leaves the power-on
contents OPEN (D15, notes/assumptions/3.md). -/
def unlistedByte : Byte := 0

/-- One cell of a byte memory. -/
def Memory.read (m : Memory) (a : Nat) : Byte := cellRead unlistedByte m a

/-- A byte memory after a write of one cell. -/
def Memory.write (m : Memory) (a : Nat) (v : Byte) : Memory := cellWrite unlistedByte m a v

/-- The canonical form of a byte memory. -/
def Memory.wf (m : Memory) : Bool := cellsWf unlistedByte m

/-- Every listed cell lies below `n`. -/
def Memory.below (n : Nat) (m : Memory) : Bool := m.all fun c => decide (c.1 < n)

/-- The memory that holds the given bytes from index `a` on, the other cells unlisted. -/
def Memory.ofBytesFrom : Nat → List Byte → Memory
  | _, [] => []
  | a, b :: rest =>
    if b = unlistedByte then Memory.ofBytesFrom (a + 1) rest else (a, b) :: Memory.ofBytesFrom (a + 1) rest

/-- The memory that holds the given bytes from index 0 on. -/
def Memory.ofBytes (l : List Byte) : Memory := Memory.ofBytesFrom 0 l

end Sys2Proof.Machine
end

