-- ==== Sys2Proof/Machine/State.lean ====
section
/-! DEFINITION. The state of the machine, every field of 10_state.md R30 to R74, and the state after reset.
Names follow the spec's own names; the rule of each field stands in its docstring. -/

namespace Sys2Proof.Machine

/-- The CPU registers and working fields (10_state.md R30 to R44). -/
structure Cpu where
  /-- `A` (R30). -/
  a : Byte
  /-- `X` (R30). -/
  x : Byte
  /-- `Y` (R30). -/
  y : Byte
  /-- `SP`, the stack is page 1 (R31). -/
  sp : Byte
  /-- `P`, bits C Z I D B U V N from bit 0 upward (R33). -/
  p : Byte
  /-- `PC` (R32). -/
  pc : Word
  /-- The opcode of the current instruction (R42). -/
  opcode : Byte
  /-- The last value `Load()` returned (R42, 40_addressing.md R196). -/
  fetched : Byte
  /-- The effective address (R42). -/
  addrAbs : Word
  /-- The sign-extended branch offset (R42). -/
  addrRel : Word
  /-- Cycles remaining for the current instruction; 0 marks an instruction boundary (R43). -/
  cycles : Nat
  /-- A latched NMI (R44). -/
  nmiPending : Bool
  /-- The sampled IRQ level (R44). -/
  irqPending : Bool
  /-- CPU clocks since power-on or reset, modulo 2^64 (R42, D52). -/
  totalCycles : BitVec 64
  /-- `dma_stall`, local to one CPU clock (40_addressing.md R180, 61_bus_clocking.md R460): a field of the
  model's own, 0 between clocks (notes/assumptions/5.md). -/
  dmaStall : Nat
  deriving DecidableEq, Repr

/-- The four bytes of a sprite in primary or secondary OAM (R49, R56). -/
structure Sprite where
  y : Byte
  tile : Byte
  attr : Byte
  x : Byte
  deriving DecidableEq, Repr

/-- One slot of the sprite pipeline: the `sec_oam` entry and its pattern planes after flip (R56). -/
structure SpriteSlot where
  sprite : Sprite
  lo : Byte
  hi : Byte
  deriving DecidableEq, Repr

/-- One entry of the output frame: a 6-bit colour index and the emphasis bits, PPUMASK bits 7-5 (R57). -/
structure Pixel where
  colour : BitVec 6
  emphasis : BitVec 3
  deriving DecidableEq, Repr

/-- The power-on value of a frame entry (R57). -/
def Pixel.blank : Pixel := { colour := 0, emphasis := 0 }

/-- The PPU state (10_state.md R46 to R57). -/
structure Ppu where
  /-- PPUCTRL (R46). -/
  ctrl : Byte
  /-- PPUMASK (R47). -/
  mask : Byte
  /-- PPUSTATUS bit 7 (R48). -/
  vblank : Bool
  /-- PPUSTATUS bit 6 (R48). -/
  sprite0Hit : Bool
  /-- PPUSTATUS bit 5 (R48). -/
  spriteOverflow : Bool
  /-- OAMADDR (R49). -/
  oamaddr : Byte
  /-- Primary OAM, 256 bytes (R49). -/
  oam : Memory
  /-- The current VRAM address (R51). -/
  v : BitVec 15
  /-- The temporary VRAM address (R51). -/
  t : BitVec 15
  /-- Fine X (R51). -/
  x : BitVec 3
  /-- The write toggle (R51). -/
  w : Bool
  /-- The $2007 read buffer (R52). -/
  dataBuffer : Byte
  /-- The nametable store, 4096 bytes (R53). -/
  vram : Memory
  /-- Palette RAM, 32 bytes (R53). -/
  palette : Memory
  /-- Scanline, -1..260 (R54). -/
  scanline : Int
  /-- Dot, 0..340 (R54). -/
  dot : Nat
  /-- The frame parity (R54). -/
  oddFrame : Bool
  /-- Set at the end of a frame (R54). -/
  frameComplete : Bool
  /-- The NMI output latch (R54). -/
  nmiOut : Bool
  /-- Tile index latch (R55). -/
  bgNt : Byte
  /-- Palette select latch (R55). -/
  bgAt : BitVec 2
  /-- Pattern plane latches (R55). -/
  bgLo : Byte
  bgHi : Byte
  /-- Background pattern shifters (R55). -/
  shPatLo : BitVec 16
  shPatHi : BitVec 16
  /-- Attribute shifters (R55). -/
  shAtLo : BitVec 16
  shAtHi : BitVec 16
  /-- Sprites selected for the line being drawn, 0..8 (R56). -/
  sprCount : Nat
  /-- `sec_oam`, `spr_lo` and `spr_hi`, eight slots (R56). -/
  slots : Vector SpriteSlot 8
  /-- Sprite 0 is slot 0 of the current list (R56). -/
  spr0InLine : Bool
  /-- The 256 x 240 frame, keyed by 256 * scanline + x (R57). -/
  frame : List (Nat × Pixel)
  deriving DecidableEq, Repr

/-- A pulse channel (R59). -/
structure Pulse where
  enabled : Bool
  duty : BitVec 2
  halt : Bool
  constVol : Bool
  vol : BitVec 4
  sweepEn : Bool
  sweepPeriod : BitVec 3
  sweepNegate : Bool
  sweepShift : BitVec 3
  sweepReload : Bool
  sweepDiv : BitVec 3
  timerPeriod : BitVec 11
  timer : BitVec 11
  dutyStep : BitVec 3
  length : Byte
  envStart : Bool
  envDiv : BitVec 4
  envDecay : BitVec 4
  deriving DecidableEq, Repr

/-- The triangle channel (R60). -/
structure Triangle where
  enabled : Bool
  control : Bool
  linReloadVal : BitVec 7
  linear : BitVec 7
  linReload : Bool
  timerPeriod : BitVec 11
  timer : BitVec 11
  step : BitVec 5
  length : Byte
  deriving DecidableEq, Repr

/-- The noise channel (R61). -/
structure Noise where
  enabled : Bool
  halt : Bool
  constVol : Bool
  vol : BitVec 4
  mode : Bool
  periodIdx : BitVec 4
  timer : BitVec 12
  lfsr : BitVec 15
  length : Byte
  envStart : Bool
  envDiv : BitVec 4
  envDecay : BitVec 4
  deriving DecidableEq, Repr

/-- The DMC channel (R62). -/
structure Dmc where
  irqEn : Bool
  loop : Bool
  rateIdx : BitVec 4
  timer : BitVec 9
  level : BitVec 7
  addrReg : Byte
  lenReg : Byte
  curAddr : Word
  bytesLeft : BitVec 12
  buffer : Byte
  bufferFull : Bool
  shift : Byte
  bitsLeft : BitVec 4
  silence : Bool
  deriving DecidableEq, Repr

/-- The APU state (R58 to R62). -/
structure Apu where
  /-- `apu_cycles`, modulo 2^64 (R58, D52). -/
  apuCycles : BitVec 64
  /-- `mode`: false 4-step, true 5-step (R58). -/
  fiveStep : Bool
  irqInhibit : Bool
  frameIrq : Bool
  dmcIrq : Bool
  /-- CPU cycles since the frame sequence restarted (R58). -/
  fc : Nat
  pulse1 : Pulse
  pulse2 : Pulse
  tri : Triangle
  noise : Noise
  dmc : Dmc
  deriving DecidableEq, Repr

/-- One controller port (R70). -/
structure Port where
  /-- Bit i is the i-th button of A, B, Select, Start, Up, Down, Left, Right (61_bus_clocking.md R472). -/
  buttons : Byte
  latch : Byte
  /-- The shift-read index, 0..8. -/
  index : Nat
  deriving DecidableEq, Repr

/-- The two controller ports and their shared strobe (R70). -/
structure Controllers where
  port0 : Port
  port1 : Port
  strobe : Bool
  deriving DecidableEq, Repr

/-- The mirroring of the cartridge's header (00_scope.md R9). -/
inductive HeaderMirroring where
  | horizontal
  | vertical
  | fourScreen
  deriving DecidableEq, Repr

/-- The five mirroring modes (62_ppu.md R514, D50). -/
inductive Mirroring where
  | horizontal
  | vertical
  | oneScreenLower
  | oneScreenUpper
  | fourScreen
  deriving DecidableEq, Repr

/-- MMC1 registers (R72). -/
structure Mmc1 where
  shift : BitVec 5
  shiftCount : Nat
  control : BitVec 5
  chr0 : BitVec 5
  chr1 : BitVec 5
  prg : BitVec 5
  deriving DecidableEq, Repr

/-- MMC1 at power-on (R72, D20). -/
def Mmc1.powerOn : Mmc1 :=
  { shift := 0, shiftCount := 0, control := 0x0C, chr0 := 0, chr1 := 0, prg := 0 }

/-- MMC3 registers (R74). -/
structure Mmc3 where
  bankSelect : Byte
  r : Vector Byte 8
  mirroring : Bool
  irqLatch : Byte
  irqCounter : Byte
  irqReload : Bool
  irqEnable : Bool
  irqPending : Bool
  a12Last : Bool
  a12Low : Nat
  deriving DecidableEq, Repr

/-- MMC3 at power-on (R74, D20). -/
def Mmc3.powerOn : Mmc3 :=
  { bankSelect := 0, r := Vector.replicate 8 0, mirroring := false, irqLatch := 0, irqCounter := 0,
    irqReload := false, irqEnable := false, irqPending := false, a12Last := false, a12Low := 0 }

/-- The mapper variant with its registers (R71 to R74). -/
inductive Mapper where
  | nrom
  | mmc1 (m : Mmc1)
  | uxrom (bank : Byte)
  | cnrom (bank : Byte)
  | mmc3 (m : Mmc3)
  deriving DecidableEq, Repr

/-- A cartridge: its configuration, its memories and its mapper (R71). -/
structure Cart where
  /-- `PRG_ROM`. -/
  prgRom : Memory
  /-- The number of 16 KiB banks of `PRG_ROM`, at least 1. -/
  prgBanks : Nat
  /-- `CHR`, ROM or RAM. -/
  chr : Memory
  /-- The number of 8 KiB banks of `CHR`, 1 when it is RAM. -/
  chrBanks : Nat
  /-- `CHR_IS_RAM`. -/
  chrIsRam : Bool
  /-- `HEADER_MIRRORING`. -/
  header : HeaderMirroring
  /-- PRG-RAM, 8192 bytes at $6000-$7FFF (R71, D32). -/
  prgRam : Memory
  mapper : Mapper
  deriving DecidableEq, Repr

/-- The whole machine. -/
structure State where
  cpu : Cpu
  ppu : Ppu
  apu : Apu
  ctrl : Controllers
  /-- Internal RAM, 2048 bytes (R45). -/
  ram : Memory
  /-- The current cartridge, if one is loaded (R45). -/
  cart : Option Cart
  /-- The global dot counter, modulo 2^64 (R45). -/
  dotCount : BitVec 64
  /-- The implementation parameters of 00_scope.md R9, fixed for a run (R75). -/
  config : Config
  deriving DecidableEq, Repr

/-- The reasons a step can stop. There is none: the hardware raises no synchronous exception, no access fails
and no opcode is illegal (60_exceptions.md R400, 20_memory.md R107), so no instruction and no clock raises a
fault (notes/assumptions/16.md). -/
inductive Fault where
  deriving DecidableEq, Repr

/-- Reasons for having no meaning. -/
inductive Refusal where
  /-- Raised by an arm of `exec` whose instruction has no meaning yet; safe. No arm raises it. -/
  | notModelled (mnemonic : String)
  /-- Raised by the host's load operation for a mapper id outside 0..4 (64_cartridge_mappers.md R755, U23);
  never by an instruction or a step; safe. -/
  | unsupportedMapper (mapperId : Nat)
  /-- Raised by the host's load operation for an image whose sizes are not those of D55 (U24); never by an
  instruction or a step; safe. -/
  | cartridgeFormat
  /-- Raised by the host's `load_state` for a save of an unknown version or a bad encoding (61_bus_clocking.md R481,
  U25); never by an instruction or a step; safe. -/
  | saveStateFormat
  deriving DecidableEq, Repr

/-- The CPU after reset with the given reset vector (R30 to R42, 70_reset_and_hazards.md R800). -/
def Cpu.reset (vector : Word) : Cpu :=
  { a := 0, x := 0, y := 0, sp := 0xFD, p := 0x24, pc := vector, opcode := 0, fetched := 0, addrAbs := 0,
    addrRel := 0, cycles := 7, nmiPending := false, irqPending := false, totalCycles := 0, dmaStall := 0 }

/-- An empty slot of the sprite pipeline (R56). -/
def SpriteSlot.empty : SpriteSlot :=
  { sprite := { y := 0, tile := 0, attr := 0, x := 0 }, lo := 0, hi := 0 }

/-- The PPU after reset with the memories and the frame that reset keeps (R46 to R57, R800). -/
def Ppu.reset (oam vram palette : Memory) (frame : List (Nat × Pixel)) : Ppu :=
  { ctrl := 0, mask := 0, vblank := false, sprite0Hit := false, spriteOverflow := false, oamaddr := 0,
    oam := oam, v := 0, t := 0, x := 0, w := false, dataBuffer := 0, vram := vram, palette := palette,
    scanline := 0, dot := 0, oddFrame := false, frameComplete := false, nmiOut := false, bgNt := 0, bgAt := 0,
    bgLo := 0, bgHi := 0, shPatLo := 0, shPatHi := 0, shAtLo := 0, shAtHi := 0, sprCount := 0,
    slots := Vector.replicate 8 SpriteSlot.empty, spr0InLine := false, frame := frame }

/-- A pulse channel after reset (R59). -/
def Pulse.reset : Pulse :=
  { enabled := false, duty := 0, halt := false, constVol := false, vol := 0, sweepEn := false,
    sweepPeriod := 0, sweepNegate := false, sweepShift := 0, sweepReload := false, sweepDiv := 0,
    timerPeriod := 0, timer := 0, dutyStep := 0, length := 0, envStart := false, envDiv := 0, envDecay := 0 }

/-- The triangle channel after reset (R60). -/
def Triangle.reset : Triangle :=
  { enabled := false, control := false, linReloadVal := 0, linear := 0, linReload := false, timerPeriod := 0,
    timer := 0, step := 0, length := 0 }

/-- The noise channel after reset: the shift register holds its seed 1 (R61). -/
def Noise.reset : Noise :=
  { enabled := false, halt := false, constVol := false, vol := 0, mode := false, periodIdx := 0, timer := 0,
    lfsr := 1, length := 0, envStart := false, envDiv := 0, envDecay := 0 }

/-- The DMC channel after reset: silent (R62). -/
def Dmc.reset : Dmc :=
  { irqEn := false, loop := false, rateIdx := 0, timer := 0, level := 0, addrReg := 0, lenReg := 0,
    curAddr := 0, bytesLeft := 0, buffer := 0, bufferFull := false, shift := 0, bitsLeft := 0, silence := true }

/-- The APU after reset (R58). -/
def Apu.reset : Apu :=
  { apuCycles := 0, fiveStep := false, irqInhibit := false, frameIrq := false, dmcIrq := false, fc := 0,
    pulse1 := Pulse.reset, pulse2 := Pulse.reset, tri := Triangle.reset, noise := Noise.reset,
    dmc := Dmc.reset }

/-- A controller port after reset with the buttons that the host owns (R70). -/
def Port.reset (buttons : Byte) : Port := { buttons := buttons, latch := 0, index := 0 }

/-- The machine right after reset: every register at the value the spec states, no memory cell listed, no
cartridge loaded, so that the reset vector reads 0 (R800, D31). That no cartridge is loaded and that unlisted
memory reads 0 is the model's choice (notes/assumptions/3.md, 4.md). -/
def State.reset : State :=
  { cpu := Cpu.reset 0
    ppu := Ppu.reset [] [] [] []
    apu := Apu.reset
    ctrl := { port0 := Port.reset 0, port1 := Port.reset 0, strobe := false }
    ram := []
    cart := none
    dotCount := 0
    config := Config.initial }

end Sys2Proof.Machine
end

