-- ==== Sys2Proof/Machine/Apu.lean ====
section
/-! DEFINITION. The APU: registers, frame sequencer, channels and mixer (63_apu.md R600 to R668).
The DMC memory reader, which uses the CPU bus, is in Machine/Bus.lean. -/

namespace Sys2Proof.Machine

/-- A change of the APU alone. -/
def State.mapApu (f : Apu → Apu) (s : State) : State := { s with apu := f s.apu }

/-- A change of pulse channel 1 (`false`) or 2 (`true`). -/
def Apu.mapPulse (second : Bool) (f : Pulse → Pulse) (a : Apu) : Apu :=
  if second then { a with pulse2 := f a.pulse2 } else { a with pulse1 := f a.pulse1 }

/-! ## Tables -/

/-- `LENGTH[0..31]` (R630). -/
def lengthTable : List Nat :=
  [10, 254, 20, 2, 40, 4, 80, 6, 160, 8, 60, 10, 14, 12, 26, 14,
   12, 16, 24, 18, 48, 20, 96, 22, 192, 24, 72, 26, 16, 28, 32, 30]

/-- The length that a register write of d loads: entry d[7:3] (R605). -/
def lengthLoad (d : Byte) : Byte := BitVec.ofNat 8 (lengthTable.getD (d >>> 3).toNat 0)

/-- `DUTY[duty][step]` (R635), one row after the other. -/
def dutyTable : List Bool :=
  [false, true, false, false, false, false, false, false,
   false, true, true, false, false, false, false, false,
   false, true, true, true, true, false, false, false,
   true, false, false, true, true, true, true, true]

/-- The duty-table entry at a step (R635). -/
def dutyBit (duty : BitVec 2) (step : BitVec 3) : Bool :=
  dutyTable.getD (8 * duty.toNat + step.toNat) false

/-- `TRI` (R642). -/
def triTable : List Nat :=
  [15, 14, 13, 12, 11, 10, 9, 8, 7, 6, 5, 4, 3, 2, 1, 0,
   0, 1, 2, 3, 4, 5, 6, 7, 8, 9, 10, 11, 12, 13, 14, 15]

/-- `NOISE_PERIOD[0..15]`, in CPU cycles (R650). -/
def noisePeriods : List Nat :=
  [4, 8, 16, 32, 64, 96, 128, 160, 202, 254, 380, 508, 762, 1016, 2034, 4068]

/-- `DMC_RATE[0..15]`, in CPU cycles per output bit (R660). -/
def dmcRates : List Nat :=
  [428, 380, 340, 320, 286, 254, 226, 214, 190, 160, 142, 128, 106, 84, 72, 54]

/-! ## Register writes (R602 to R612) -/

/-- $4000 / $4004 (R602). -/
def Pulse.writeControl (d : Byte) (p : Pulse) : Pulse :=
  { p with
    duty := d.extractLsb' 6 2, halt := d.getLsbD 5, constVol := d.getLsbD 4, vol := d.extractLsb' 0 4 }

/-- $4001 / $4005 (R603). -/
def Pulse.writeSweep (d : Byte) (p : Pulse) : Pulse :=
  { p with
    sweepEn := d.getLsbD 7, sweepPeriod := d.extractLsb' 4 3, sweepNegate := d.getLsbD 3
    sweepShift := d.extractLsb' 0 3, sweepReload := true }

/-- The low byte of an 11-bit timer period replaced (R604, R606). -/
def periodLow (d : Byte) (p : BitVec 11) : BitVec 11 := (p &&& 0x700#11) ||| d.setWidth 11

/-- The high three bits of an 11-bit timer period replaced by d[2:0] (R605, R606). -/
def periodHigh (d : Byte) (p : BitVec 11) : BitVec 11 :=
  (p &&& 0x0FF#11) ||| ((d &&& 0x07).setWidth 11 <<< 8)

/-- $4002 / $4006 (R604). -/
def Pulse.writeTimerLow (d : Byte) (p : Pulse) : Pulse := { p with timerPeriod := periodLow d p.timerPeriod }

/-- $4003 / $4007 (R605). -/
def Pulse.writeLength (d : Byte) (p : Pulse) : Pulse :=
  { p with
    timerPeriod := periodHigh d p.timerPeriod
    length := if p.enabled then lengthLoad d else p.length
    envStart := true
    dutyStep := 0 }

/-- $4008 (R606). -/
def Triangle.writeLinear (d : Byte) (t : Triangle) : Triangle :=
  { t with control := d.getLsbD 7, linReloadVal := d.extractLsb' 0 7 }

/-- $400A (R606). -/
def Triangle.writeTimerLow (d : Byte) (t : Triangle) : Triangle :=
  { t with timerPeriod := periodLow d t.timerPeriod }

/-- $400B (R606). -/
def Triangle.writeLength (d : Byte) (t : Triangle) : Triangle :=
  { t with
    timerPeriod := periodHigh d t.timerPeriod
    length := if t.enabled then lengthLoad d else t.length
    linReload := true }

/-- $400C (R607). -/
def Noise.writeControl (d : Byte) (n : Noise) : Noise :=
  { n with halt := d.getLsbD 5, constVol := d.getLsbD 4, vol := d.extractLsb' 0 4 }

/-- $400E (R607). -/
def Noise.writePeriod (d : Byte) (n : Noise) : Noise :=
  { n with mode := d.getLsbD 7, periodIdx := d.extractLsb' 0 4 }

/-- $400F (R607). -/
def Noise.writeLength (d : Byte) (n : Noise) : Noise :=
  { n with length := if n.enabled then lengthLoad d else n.length, envStart := true }

/-- `DmcRestart()` (R662). -/
def Dmc.restart (c : Dmc) : Dmc :=
  { c with
    curAddr := 0xC000#16 + 64 * c.addrReg.setWidth 16
    bytesLeft := 16 * c.lenReg.setWidth 12 + 1 }

/-- A length counter after its channel's enable bit is written: cleared by a disable (R610). -/
def lengthAfterEnable (on : Bool) (length : Byte) : Byte := if on then length else 0

/-- A pulse channel's enable bit written (R610). -/
def Pulse.enable (on : Bool) (p : Pulse) : Pulse :=
  { p with enabled := on, length := lengthAfterEnable on p.length }

/-- The triangle's enable bit written (R610). -/
def Triangle.enable (on : Bool) (t : Triangle) : Triangle :=
  { t with enabled := on, length := lengthAfterEnable on t.length }

/-- The noise channel's enable bit written (R610). -/
def Noise.enable (on : Bool) (n : Noise) : Noise :=
  { n with enabled := on, length := lengthAfterEnable on n.length }

/-- The DMC's enable bit written (R610). -/
def Dmc.enable (on : Bool) (c : Dmc) : Dmc :=
  if on then (if c.bytesLeft = 0 then c.restart else c) else { c with bytesLeft := 0 }

/-- $4015 write (R610). -/
def Apu.writeEnables (d : Byte) (a : Apu) : Apu :=
  { a with
    pulse1 := a.pulse1.enable (d.getLsbD 0)
    pulse2 := a.pulse2.enable (d.getLsbD 1)
    tri := a.tri.enable (d.getLsbD 2)
    noise := a.noise.enable (d.getLsbD 3)
    dmc := a.dmc.enable (d.getLsbD 4)
    dmcIrq := false }

/-- The $4015 status byte (R611). -/
def Apu.status (a : Apu) : Byte :=
  boolBit 8 (decide (a.pulse1.length ≠ 0)) ||| (boolBit 8 (decide (a.pulse2.length ≠ 0)) <<< 1)
    ||| (boolBit 8 (decide (a.tri.length ≠ 0)) <<< 2) ||| (boolBit 8 (decide (a.noise.length ≠ 0)) <<< 3)
    ||| (boolBit 8 (decide (a.dmc.bytesLeft ≠ 0)) <<< 4)
    ||| (boolBit 8 a.frameIrq <<< 6) ||| (boolBit 8 a.dmcIrq <<< 7)

/-! ## Envelopes, length counters, sweeps, linear counter (R622 to R633, R641) -/

/-- The envelope divider and decay after one clock: start flag, divider, decay (R632). -/
def envelopeClock (start loop : Bool) (vol div decay : BitVec 4) : BitVec 4 × BitVec 4 :=
  if start then (vol, 15)
  else if div = 0 then (vol, if decay ≠ 0 then decay - 1 else if loop then 15 else decay)
  else (div - 1, decay)

/-- The envelope clock of a pulse channel (R632). -/
def Pulse.clockEnvelope (p : Pulse) : Pulse :=
  let e := envelopeClock p.envStart p.halt p.vol p.envDiv p.envDecay
  { p with envStart := false, envDiv := e.1, envDecay := e.2 }

/-- The envelope clock of the noise channel (R632). -/
def Noise.clockEnvelope (n : Noise) : Noise :=
  let e := envelopeClock n.envStart n.halt n.vol n.envDiv n.envDecay
  { n with envStart := false, envDiv := e.1, envDecay := e.2 }

/-- `Envelope(ch)` (R632). -/
def envelopeLevel (constVol : Bool) (vol decay : BitVec 4) : BitVec 4 := if constVol then vol else decay

/-- The length counter clock (R631). -/
def lengthClock (halt : Bool) (length : Byte) : Byte :=
  if length ≠ 0 ∧ halt = false then length - 1 else length

/-- The linear counter clock (R641). -/
def Triangle.clockLinear (t : Triangle) : Triangle :=
  { t with
    linear := if t.linReload then t.linReloadVal else if t.linear ≠ 0 then t.linear - 1 else t.linear
    linReload := t.linReload && t.control }

/-- `Target(k)`, an integer; pulse 1 negates in one's complement, pulse 2 in two's complement (R633). -/
def Pulse.target (second : Bool) (p : Pulse) : Int :=
  let c : Int := ((p.timerPeriod >>> p.sweepShift.toNat).toNat : Int)
  let t : Int := (p.timerPeriod.toNat : Int)
  if p.sweepNegate = false then t + c else if second then t - c else t - c - 1

/-- `SweepClock(k)` (R633). -/
def Pulse.clockSweep (second : Bool) (p : Pulse) : Pulse :=
  let moves := decide (p.sweepDiv = 0 ∧ p.sweepEn = true ∧ p.sweepShift ≠ 0 ∧ 8 ≤ p.timerPeriod.toNat
    ∧ p.target second ≤ 0x7FF)
  let reload := decide (p.sweepDiv = 0 ∨ p.sweepReload = true)
  { p with
    timerPeriod := if moves then BitVec.ofInt 11 (p.target second) else p.timerPeriod
    sweepDiv := if reload then p.sweepPeriod else p.sweepDiv - 1
    sweepReload := if reload then false else p.sweepReload }

/-- `QuarterFrame()` (R622). -/
def Apu.quarterFrame (a : Apu) : Apu :=
  { a with
    pulse1 := a.pulse1.clockEnvelope, pulse2 := a.pulse2.clockEnvelope, noise := a.noise.clockEnvelope
    tri := a.tri.clockLinear }

/-- The length counter of a pulse channel, then its sweep unit (R623). -/
def Pulse.clockHalf (second : Bool) (p : Pulse) : Pulse :=
  ({ p with length := lengthClock p.halt p.length }).clockSweep second

/-- `HalfFrame()` (R623). -/
def Apu.halfFrame (a : Apu) : Apu :=
  { a with
    pulse1 := a.pulse1.clockHalf false
    pulse2 := a.pulse2.clockHalf true
    tri := { a.tri with length := lengthClock a.tri.control a.tri.length }
    noise := { a.noise with length := lengthClock a.noise.halt a.noise.length } }

/-! ## The frame counter register and the frame sequencer (R612, R620, R621) -/

/-- $4017 write (R612). -/
def Apu.writeFrameCounter (d : Byte) (a : Apu) : Apu :=
  applyWhen (d.getLsbD 7) Apu.halfFrame
    { a with
      fiveStep := d.getLsbD 7
      irqInhibit := d.getLsbD 6
      frameIrq := if d.getLsbD 6 then false else a.frameIrq
      fc := 0 }

/-- The APU cycle at which a step fires: `ceil(S * T)` with `t2` twice the listed time T (R621). -/
def stepTime (scale : FrameScale) (t2 : Nat) : Nat :=
  match scale with
  | .one => (t2 + 1) / 2
  | .two => t2

/-- Twice the step times T0..T4 of R621. -/
def stepHalves : List Nat := [7457, 14913, 22371, 29829, 37281]

/-- `Step(mode, k)` (R621). -/
def Apu.sequencerStep (k : Nat) (a : Apu) : Apu :=
  if a.fiveStep then
    applyWhen (decide (k = 1 ∨ k = 4)) Apu.halfFrame
      (applyWhen (decide (k ≠ 3)) Apu.quarterFrame a)
  else
    let a1 := applyWhen (decide (k = 1 ∨ k = 3)) Apu.halfFrame a.quarterFrame
    { a1 with frameIrq := a1.frameIrq || (decide (k = 3) && !a1.irqInhibit) }

/-- The number of the last step of a mode (R621). -/
def lastStep (fiveStep : Bool) : Nat := if fiveStep then 4 else 3

/-- `FrameSequencer()` (R621). -/
def Apu.frameSequencer (scale : FrameScale) (a : Apu) : Apu :=
  let now := a.fc + 1
  let last := lastStep a.fiveStep
  let a1 := { a with fc := now }
  let a2 := (List.range (last + 1)).foldl
    (fun b k => applyWhen (decide (now = stepTime scale (stepHalves.getD k 0))) (Apu.sequencerStep k) b) a1
  if now = stepTime scale (stepHalves.getD last 0) then { a2 with fc := 0 } else a2

/-! ## Channel timers (R634, R640, R651, R661) -/

/-- `PulseTimer(k)` (R634). -/
def Pulse.clockTimer (p : Pulse) : Pulse :=
  if p.timer = 0 then { p with timer := p.timerPeriod, dutyStep := p.dutyStep + 1 }
  else { p with timer := p.timer - 1 }

/-- `TriangleTimer()` (R640). -/
def Triangle.clockTimer (t : Triangle) : Triangle :=
  if t.timer = 0 then
    { t with
      timer := t.timerPeriod
      step := if t.linear ≠ 0 ∧ t.length ≠ 0 ∧ 2 ≤ t.timerPeriod.toNat then t.step + 1 else t.step }
  else { t with timer := t.timer - 1 }

/-- `NoiseTimer()` (R651). -/
def Noise.clockTimer (n : Noise) : Noise :=
  if n.timer = 0 then
    let f := n.lfsr.getLsbD 0 ^^ (if n.mode then n.lfsr.getLsbD 6 else n.lfsr.getLsbD 1)
    { n with
      timer := BitVec.ofNat 12 (noisePeriods.getD n.periodIdx.toNat 0 - 1)
      lfsr := (n.lfsr >>> 1) ||| (boolBit 15 f <<< 14) }
  else { n with timer := n.timer - 1 }

/-- The output level after one delta bit (R661). -/
def dmcLevel (bit : Bool) (level : BitVec 7) : BitVec 7 :=
  if bit then (if level.toNat ≤ 125 then level + 2 else level)
  else (if 2 ≤ level.toNat then level - 2 else level)

/-- `DmcTimer()` (R661). -/
def Dmc.clockTimer (c : Dmc) : Dmc :=
  if c.timer = 0 then
    let level := if c.silence then c.level else dmcLevel (c.shift.getLsbD 0) c.level
    let left := if c.bitsLeft ≠ 0 then c.bitsLeft - 1 else c.bitsLeft
    let c1 : Dmc :=
      { c with
        timer := BitVec.ofNat 9 (dmcRates.getD c.rateIdx.toNat 0 - 1), level := level
        shift := c.shift >>> 1, bitsLeft := left }
    if left = 0 then
      if c.bufferFull then { c1 with bitsLeft := 8, silence := false, shift := c.buffer, bufferFull := false }
      else { c1 with bitsLeft := 8, silence := true }
    else c1
  else { c with timer := c.timer - 1 }

/-- `ApuClock()` less the DMC memory reader, in the order of R620. -/
def Apu.clock (scale : FrameScale) (a : Apu) : Apu :=
  let a1 := Apu.frameSequencer scale { a with apuCycles := a.apuCycles + 1 }
  let even := decide (a1.apuCycles.toNat % 2 = 0)
  { a1 with
    pulse1 := applyWhen even Pulse.clockTimer a1.pulse1
    pulse2 := applyWhen even Pulse.clockTimer a1.pulse2
    tri := a1.tri.clockTimer
    noise := a1.noise.clockTimer
    dmc := a1.dmc.clockTimer }

/-! ## Register dispatch (R600, R601) -/

/-- `ApuWrite(addr, d)` for the register at $4000 + r (R601); $4009 and $400D are unused (D56). -/
def Apu.writeRegister (r : Nat) (d : Byte) (a : Apu) : Apu :=
  match r with
  | 0x00 => { a with pulse1 := a.pulse1.writeControl d }
  | 0x01 => { a with pulse1 := a.pulse1.writeSweep d }
  | 0x02 => { a with pulse1 := a.pulse1.writeTimerLow d }
  | 0x03 => { a with pulse1 := a.pulse1.writeLength d }
  | 0x04 => { a with pulse2 := a.pulse2.writeControl d }
  | 0x05 => { a with pulse2 := a.pulse2.writeSweep d }
  | 0x06 => { a with pulse2 := a.pulse2.writeTimerLow d }
  | 0x07 => { a with pulse2 := a.pulse2.writeLength d }
  | 0x08 => { a with tri := a.tri.writeLinear d }
  | 0x0A => { a with tri := a.tri.writeTimerLow d }
  | 0x0B => { a with tri := a.tri.writeLength d }
  | 0x0C => { a with noise := a.noise.writeControl d }
  | 0x0E => { a with noise := a.noise.writePeriod d }
  | 0x0F => { a with noise := a.noise.writeLength d }
  | 0x10 =>
    { a with
      dmc := { a.dmc with irqEn := d.getLsbD 7, loop := d.getLsbD 6, rateIdx := d.extractLsb' 0 4 }
      dmcIrq := a.dmcIrq && d.getLsbD 7 }
  | 0x11 => { a with dmc := { a.dmc with level := d.extractLsb' 0 7 } }
  | 0x12 => { a with dmc := { a.dmc with addrReg := d } }
  | 0x13 => { a with dmc := { a.dmc with lenReg := d } }
  | 0x15 => a.writeEnables d
  | 0x17 => a.writeFrameCounter d
  | _ => a

/-! ## Outputs: functions of the state that change nothing (R636, R642, R652, R668) -/

/-- `PulseOut(k)` (R636). -/
def Pulse.output (sweepMute second : Bool) (p : Pulse) : Nat :=
  if p.timerPeriod.toNat < 8 then 0
  else if p.length = 0 then 0
  else if dutyBit p.duty p.dutyStep = false then 0
  else if sweepMute = true ∧ 0x7FF < p.target second then 0
  else (envelopeLevel p.constVol p.vol p.envDecay).toNat

/-- `TriOut()` (R642). -/
def Triangle.output (t : Triangle) : Nat := triTable.getD t.step.toNat 0

/-- `NoiseOut()` (R652). -/
def Noise.output (n : Noise) : Nat :=
  if n.length = 0 ∨ n.lfsr.getLsbD 0 = true then 0 else (envelopeLevel n.constVol n.vol n.envDecay).toNat

/-- `Mix()` of the five channel outputs, exact (R668). -/
def mixOf (p1 p2 t n d : Nat) : Rat :=
  let pulseOut : Rat := if p1 + p2 = 0 then 0 else (9588 / 100) / (8128 / ((p1 + p2 : Nat) : Rat) + 100)
  let tndOut : Rat :=
    if t + n + d = 0 then 0
    else (15979 / 100) / (1 / ((t : Rat) / 8227 + (n : Rat) / 12241 + (d : Rat) / 22638) + 100)
  pulseOut + tndOut

/-- `Mix()`, the APU's output (R668). -/
def State.mix (s : State) : Rat :=
  mixOf (s.apu.pulse1.output s.config.pulseSweepMute false) (s.apu.pulse2.output s.config.pulseSweepMute true)
    s.apu.tri.output s.apu.noise.output s.apu.dmc.level.toNat

end Sys2Proof.Machine
end

