-- ==== Sys2Proof/Machine/Mapper.lean ====
section
/-! DEFINITION. The cartridge and the five mappers (64_cartridge_mappers.md). -/

namespace Sys2Proof.Machine

/-! ## Sizes and bank arithmetic (R701) -/

/-- `MEM[(b mod count) * S + off]`: bank numbers wrap modulo the bank count (R701). -/
def bankIndex (bank count size off : Nat) : Nat := bank % count * size + off

/-- `n16`, the number of 16 KiB PRG banks. -/
def Cart.n16 (c : Cart) : Nat := c.prgBanks

/-- `n8p`, the number of 8 KiB PRG banks. -/
def Cart.n8p (c : Cart) : Nat := 2 * c.prgBanks

/-- `n8c`, the number of 8 KiB CHR banks. -/
def Cart.n8c (c : Cart) : Nat := c.chrBanks

/-- `n4c`, the number of 4 KiB CHR banks. -/
def Cart.n4c (c : Cart) : Nat := 2 * c.chrBanks

/-- `n1c`, the number of 1 KiB CHR banks. -/
def Cart.n1c (c : Cart) : Nat := 8 * c.chrBanks

/-- The offset of an address in its 16 KiB bank. -/
def off16k (a : Word) : Nat := (a &&& 0x3FFF).toNat

/-- The offset of an address in its 8 KiB bank. -/
def off8k (a : Word) : Nat := (a &&& 0x1FFF).toNat

/-! ## MMC1 (R720 to R725) -/

/-- The 16 KiB PRG bank at an address >= $8000 (R723). -/
def Mmc1.prgBank (m : Mmc1) (n16 : Nat) (a : Word) : Nat :=
  let p := (m.prg &&& 0x0F).toNat
  let upper := decide (0xC000 ≤ a.toNat)
  match (m.control.extractLsb' 2 2).toNat with
  | 2 => if upper then p else 0
  | 3 => if upper then n16 - 1 else p
  | _ => (m.prg &&& 0x0E).toNat + (if upper then 1 else 0)

/-- The 4 KiB CHR bank at an address < $2000 (R724). -/
def Mmc1.chrBank (m : Mmc1) (a : Word) : Nat :=
  let upper := decide (0x1000 ≤ a.toNat)
  if m.control.getLsbD 4 then (if upper then m.chr1.toNat else m.chr0.toNat)
  else (m.chr0 &&& 0x1E).toNat + (if upper then 1 else 0)

/-- PRG-RAM is enabled when bit 4 of the PRG register is 0 (R723). -/
def Mmc1.ramEnabled (m : Mmc1) : Bool := !m.prg.getLsbD 4

/-- The nametable mode of control bits 1-0 (R721). -/
def Mmc1.mirroringMode (m : Mmc1) : Mirroring :=
  match (m.control.extractLsb' 0 2).toNat with
  | 0 => .oneScreenLower
  | 1 => .oneScreenUpper
  | 2 => .vertical
  | _ => .horizontal

/-- The register that the fifth write fills, selected by bits 14-13 of its address (R720). -/
def Mmc1.setRegister (m : Mmc1) (a : Word) (value : BitVec 5) : Mmc1 :=
  match (a.extractLsb' 13 2).toNat with
  | 0 => { m with control := value }
  | 1 => { m with chr0 := value }
  | 2 => { m with chr1 := value }
  | _ => { m with prg := value }

/-- A CPU write to $8000-$FFFF: the serial port (R720). -/
def Mmc1.write (m : Mmc1) (a : Word) (v : Byte) : Mmc1 :=
  if v.getLsbD 7 then { m with shift := 0, shiftCount := 0, control := m.control ||| 0x0C }
  else
    let value : BitVec 5 := (m.shift >>> 1) ||| (boolBit 5 (v.getLsbD 0) <<< 4)
    if m.shiftCount = 4 then { m.setRegister a value with shift := 0, shiftCount := 0 }
    else { m with shift := value, shiftCount := m.shiftCount + 1 }

/-! ## MMC3 (R740 to R749) -/

/-- A CPU write to $8000-$FFFF, decoded by `a & $E001` (R740). -/
def Mmc3.write (m : Mmc3) (a : Word) (v : Byte) : Mmc3 :=
  let odd := a.getLsbD 0
  match (a.extractLsb' 13 2).toNat with
  | 0 => if odd then { m with r := m.r.setIfInBounds (m.bankSelect.extractLsb' 0 3).toNat v }
         else { m with bankSelect := v }
  | 1 => if odd then m else { m with mirroring := v.getLsbD 0 }
  | 2 => if odd then { m with irqCounter := 0, irqReload := true } else { m with irqLatch := v }
  | _ => if odd then { m with irqEnable := true } else { m with irqEnable := false, irqPending := false }

/-- The 8 KiB PRG bank at an address >= $8000 (R741). -/
def Mmc3.prgBank (m : Mmc3) (n8p : Nat) (a : Word) : Nat :=
  let mode := m.bankSelect.getLsbD 6
  match (a.extractLsb' 13 2).toNat with
  | 0 => if mode then n8p - 2 else m.r[6].toNat
  | 1 => m.r[7].toNat
  | 2 => if mode then m.r[6].toNat else n8p - 2
  | _ => n8p - 1

/-- The 1 KiB CHR bank at an address < $2000 (R742): CHR inversion exchanges the two halves of the slots. -/
def Mmc3.chrBank (m : Mmc3) (a : Word) : Nat :=
  let k : BitVec 3 := a.extractLsb' 10 3
  match (if m.bankSelect.getLsbD 7 then k ^^^ 4 else k).toNat with
  | 0 => (m.r[0] &&& 0xFE).toNat
  | 1 => (m.r[0] ||| 1).toNat
  | 2 => (m.r[1] &&& 0xFE).toNat
  | 3 => (m.r[1] ||| 1).toNat
  | 4 => m.r[2].toNat
  | 5 => m.r[3].toNat
  | 6 => m.r[4].toNat
  | _ => m.r[5].toNat

/-- `ClockCounter()` (R747). -/
def Mmc3.clockCounter (m : Mmc3) : Mmc3 :=
  let m1 : Mmc3 :=
    if m.irqCounter = 0 ∨ m.irqReload = true then { m with irqCounter := m.irqLatch, irqReload := false }
    else { m with irqCounter := m.irqCounter - 1 }
  if m1.irqCounter = 0 ∧ m1.irqEnable = true then { m1 with irqPending := true } else m1

/-- `observe(a)`: the A12 edge filter (R748). -/
def Mmc3.observe (debounce : Nat) (m : Mmc3) (a : Word) : Mmc3 :=
  if a.getLsbD 12 then
    let m1 := if m.a12Last = false ∧ debounce ≤ m.a12Low then m.clockCounter else m
    { m1 with a12Last := true, a12Low := 0 }
  else { m with a12Last := false }

/-! ## The mapper contract (R700 to R706) -/

/-- Where an address >= $8000 lies in `PRG_ROM` (R710, R723, R730, R735, R741). -/
def Cart.prgIndex (c : Cart) (a : Word) : Nat :=
  match c.mapper with
  | .nrom => (a.toNat - 0x8000) % (c.prgBanks * 16384)
  | .mmc1 m => bankIndex (m.prgBank c.n16 a) c.n16 16384 (off16k a)
  | .uxrom bank =>
    if a.toNat < 0xC000 then bankIndex bank.toNat c.n16 16384 (off16k a)
    else (c.n16 - 1) * 16384 + off16k a
  | .cnrom _ => (a.toNat - 0x8000) % (c.prgBanks * 16384)
  | .mmc3 m => bankIndex (m.prgBank c.n8p a) c.n8p 8192 (off8k a)

/-- Where an address < $2000 lies in `CHR` (R712, R724, R731, R735, R742). -/
def Cart.chrIndex (c : Cart) (a : Word) : Nat :=
  match c.mapper with
  | .nrom => a.toNat
  | .mmc1 m => bankIndex (m.chrBank a) c.n4c 4096 (a &&& 0x0FFF).toNat
  | .uxrom _ => a.toNat
  | .cnrom bank => bankIndex bank.toNat c.n8c 8192 a.toNat
  | .mmc3 m => bankIndex (m.chrBank a) c.n1c 1024 (a &&& 0x03FF).toNat

/-- PRG-RAM is accessible, except when MMC1 disables it (R702, R723, R749). -/
def Cart.prgRamEnabled (c : Cart) : Bool :=
  match c.mapper with
  | .mmc1 m => m.ramEnabled
  | .nrom | .uxrom _ | .cnrom _ | .mmc3 _ => true

/-- `cpu_read(addr)` for an address >= $4020: the byte, or none when no mapper handles it (R700, R702). -/
def Cart.cpuRead (c : Cart) (a : Word) : Option Byte :=
  if 0x8000 ≤ a.toNat then some (c.prgRom.read (c.prgIndex a))
  else if 0x6000 ≤ a.toNat then some (if c.prgRamEnabled then c.prgRam.read (a.toNat - 0x6000) else 0)
  else none

/-- The mapper registers after a write to $8000-$FFFF (R711, R720, R730, R735, R740). -/
def Mapper.write (m : Mapper) (a : Word) (v : Byte) : Mapper :=
  match m with
  | .nrom => .nrom
  | .mmc1 m => .mmc1 (m.write a v)
  | .uxrom _ => .uxrom v
  | .cnrom _ => .cnrom v
  | .mmc3 m => .mmc3 (m.write a v)

/-- `cpu_write(addr, v)` for an address >= $4020 (R700, R702). -/
def Cart.cpuWrite (c : Cart) (a : Word) (v : Byte) : Cart :=
  if 0x8000 ≤ a.toNat then { c with mapper := c.mapper.write a v }
  else if 0x6000 ≤ a.toNat then
    (if c.prgRamEnabled then { c with prgRam := c.prgRam.write (a.toNat - 0x6000) v } else c)
  else c

/-- `ppu_read(a)` for an address < $2000 (R700). -/
def Cart.ppuRead (c : Cart) (a : Word) : Byte := c.chr.read (c.chrIndex a)

/-- `ppu_write(a, v)` for an address < $2000: stores only when CHR is RAM (R704). -/
def Cart.ppuWrite (c : Cart) (a : Word) (v : Byte) : Cart :=
  if c.chrIsRam then { c with chr := c.chr.write (c.chrIndex a) v } else c

/-- The mirroring mode that a header gives (R703). -/
def HeaderMirroring.mode : HeaderMirroring → Mirroring
  | .horizontal => .horizontal
  | .vertical => .vertical
  | .fourScreen => .fourScreen

/-- `mirroring()` (R703, R722, R745). -/
def Cart.mirroring (c : Cart) : Mirroring :=
  if c.header = .fourScreen then .fourScreen
  else
    match c.mapper with
    | .nrom | .uxrom _ | .cnrom _ => c.header.mode
    | .mmc1 m => m.mirroringMode
    | .mmc3 m => if m.mirroring then .horizontal else .vertical

/-- `clock()`, one CPU cycle of mapper time (R705). -/
def Mapper.clock (m : Mapper) : Mapper :=
  match m with
  | .mmc3 m => .mmc3 (if m.a12Last then m else { m with a12Low := m.a12Low + 1 })
  | .nrom | .mmc1 _ | .uxrom _ | .cnrom _ => m

/-- `irq()`, the mapper IRQ level (R725, R746). -/
def Mapper.irq (m : Mapper) : Bool :=
  match m with
  | .mmc3 m => m.irqPending
  | .nrom | .mmc1 _ | .uxrom _ | .cnrom _ => false

/-- `observe(a)`, the PPU address-bus observation (R706). -/
def Mapper.observe (debounce : Nat) (m : Mapper) (a : Word) : Mapper :=
  match m with
  | .mmc3 m => .mmc3 (m.observe debounce a)
  | .nrom | .mmc1 _ | .uxrom _ | .cnrom _ => m

/-- The mapper registers at power-on (R72 to R74, D20). -/
def Mapper.powerOn (m : Mapper) : Mapper :=
  match m with
  | .nrom => .nrom
  | .mmc1 _ => .mmc1 Mmc1.powerOn
  | .uxrom _ => .uxrom 0
  | .cnrom _ => .cnrom 0
  | .mmc3 _ => .mmc3 Mmc3.powerOn

/-! ## The cartridge slot of the machine (D31) -/

/-- A change of the loaded cartridge; nothing with no cartridge. -/
def State.mapCart (f : Cart → Cart) (s : State) : State := { s with cart := s.cart.map f }

/-- `MapperClock()` (R705). -/
def mapperClock (s : State) : State := s.mapCart fun c => { c with mapper := c.mapper.clock }

/-- The mapper's observation of a PPU access (R706). -/
def mapperObserve (a : Word) (s : State) : State :=
  s.mapCart fun c => { c with mapper := c.mapper.observe s.config.mmc3A12Debounce a }

/-- The mapper IRQ level, low with no cartridge (D31). -/
def State.mapperIrq (s : State) : Bool :=
  match s.cart with
  | none => false
  | some c => c.mapper.irq

/-- The current mirroring mode, horizontal with no cartridge (R703, D31). -/
def State.mirroring (s : State) : Mirroring :=
  match s.cart with
  | none => .horizontal
  | some c => c.mirroring

end Sys2Proof.Machine
end

