-- ==== Sys2Proof/Machine/Ppu.lean ====
section
/-! DEFINITION. The PPU address space and the eight CPU-visible registers (62_ppu.md R510 to R530). -/

namespace Sys2Proof.Machine

/-- A change of the PPU alone. -/
def State.mapPpu (f : Ppu → Ppu) (s : State) : State := { s with ppu := f s.ppu }

/-! ## The address space -/

/-- The physical 1 KiB offset of a nametable (R514). -/
def nametableBase : Mirroring → Nat → Nat
  | .horizontal, n => if n < 2 then 0x000 else 0x400
  | .vertical, n => if n % 2 = 0 then 0x000 else 0x400
  | .oneScreenLower, _ => 0x000
  | .oneScreenUpper, _ => 0x400
  | .fourScreen, n => n * 0x400

/-- `NtIndex(a)`: the place of a nametable address in `vram` (R514). -/
def ntIndex (mode : Mirroring) (a : Word) : Nat :=
  let o := ((a - 0x2000) &&& 0x0FFF).toNat
  nametableBase mode (o / 0x400) + o % 0x400

/-- `PalIndex(a)`: entries $10, $14, $18, $1C mirror $00, $04, $08, $0C (R515). -/
def palIndex (a : Word) : Nat :=
  let i := (a &&& 0x1F).toNat
  if i = 0x10 ∨ i = 0x14 ∨ i = 0x18 ∨ i = 0x1C then i - 0x10 else i

/-- A palette entry (R515). -/
def Ppu.paletteAt (p : Ppu) (a : Word) : Byte := p.palette.read (palIndex a)

/-- `PpuRead(a)`: a read in the 14-bit PPU address space (R512). -/
def ppuRead (addr : Word) (s : State) : State × Byte :=
  let a := addr &&& 0x3FFF
  if a.toNat < 0x3F00 then
    let s1 := mapperObserve a s
    if a.toNat < 0x2000 then
      (s1, match s1.cart with
        | none => 0
        | some c => c.ppuRead a)
    else (s1, s1.ppu.vram.read (ntIndex s1.mirroring a))
  else (s, s.ppu.paletteAt a)

/-- `PpuWrite(a, v)`: a write in the 14-bit PPU address space (R513). -/
def ppuWrite (addr : Word) (v : Byte) (s : State) : State :=
  let a := addr &&& 0x3FFF
  if a.toNat < 0x3F00 then
    let s1 := mapperObserve a s
    if a.toNat < 0x2000 then s1.mapCart fun c => c.ppuWrite a v
    else s1.mapPpu fun p => { p with vram := p.vram.write (ntIndex s1.mirroring a) v }
  else s.mapPpu fun p => { p with palette := p.palette.write (palIndex a) v }

/-! ## The registers -/

/-- The assembled PPUSTATUS byte (R48, R522). -/
def Ppu.status (p : Ppu) : Byte :=
  (boolBit 8 p.vblank <<< 7) ||| (boolBit 8 p.sprite0Hit <<< 6) ||| (boolBit 8 p.spriteOverflow <<< 5)
    ||| (p.dataBuffer &&& 0x1F)

/-- The $2007 address increment of PPUCTRL bit 2 (R46, R527). -/
def Ppu.increment (p : Ppu) : BitVec 15 := if p.ctrl.getLsbD 2 then 32 else 1

/-- `v` as a PPU address (R101). -/
def Ppu.vAddr (p : Ppu) : Word := p.v.setWidth 16 &&& 0x3FFF

/-- The advance of `v` after a $2007 access (R527, R528). -/
def Ppu.advanceV (p : Ppu) : Ppu := { p with v := p.v + p.increment }

/-- $2002 read (R522). -/
def readStatus (s : State) : State × Byte :=
  (s.mapPpu fun p => { p with vblank := false, w := false }, s.ppu.status)

/-- $2007 read (R527). -/
def readData (s : State) : State × Byte :=
  let a := s.ppu.vAddr
  if 0x3F00 ≤ a.toNat then
    let r := s.ppu.paletteAt a
    let (s1, b) := ppuRead (a - 0x1000) s
    (s1.mapPpu fun p => { p with dataBuffer := b }.advanceV, r)
  else
    let r := s.ppu.dataBuffer
    let (s1, b) := ppuRead a s
    (s1.mapPpu fun p => { p with dataBuffer := b }.advanceV, r)

/-- `PpuRegRead(r)` (R520); the write-only registers read 0 (D13). -/
def ppuRegRead (r : Nat) (s : State) : State × Byte :=
  match r with
  | 2 => readStatus s
  | 4 => (s, s.ppu.oam.read s.ppu.oamaddr.toNat)
  | 7 => readData s
  | _ => (s, 0)

/-- $2000 write (R525): bits 1-0 enter `t`, and enabling NMI during vblank raises it. -/
def Ppu.writeCtrl (d : Byte) (p : Ppu) : Ppu :=
  { p with
    ctrl := d
    t := (p.t &&& ~~~0x0C00#15) ||| ((d &&& 0x03).setWidth 15 <<< 10)
    nmiOut := p.nmiOut || (!p.ctrl.getLsbD 7 && (d.getLsbD 7 && p.vblank)) }

/-- $2004 write (R524). -/
def Ppu.writeOam (d : Byte) (p : Ppu) : Ppu :=
  { p with oam := p.oam.write p.oamaddr.toNat d, oamaddr := p.oamaddr + 1 }

/-- $2005 write (R529). -/
def Ppu.writeScroll (d : Byte) (p : Ppu) : Ppu :=
  if p.w then
    { p with
      t := (p.t &&& ~~~0x73E0#15) ||| ((d &&& 0x07).setWidth 15 <<< 12) ||| ((d >>> 3).setWidth 15 <<< 5)
      w := false }
  else
    { p with
      x := d.extractLsb' 0 3
      t := (p.t &&& ~~~0x001F#15) ||| (d >>> 3).setWidth 15
      w := true }

/-- $2006 write (R530). -/
def Ppu.writeAddr (d : Byte) (p : Ppu) : Ppu :=
  if p.w then
    let t1 := (p.t &&& 0x7F00#15) ||| d.setWidth 15
    { p with t := t1, v := t1, w := false }
  else { p with t := (p.t &&& 0x00FF#15) ||| ((d &&& 0x3F).setWidth 15 <<< 8), w := true }

/-- $2007 write (R528). -/
def writeData (d : Byte) (s : State) : State :=
  (ppuWrite s.ppu.vAddr d s).mapPpu Ppu.advanceV

/-- `PpuRegWrite(r, d)` (R521). -/
def ppuRegWrite (r : Nat) (d : Byte) (s : State) : State :=
  match r with
  | 0 => s.mapPpu (Ppu.writeCtrl d)
  | 1 => s.mapPpu fun p => { p with mask := d }
  | 3 => s.mapPpu fun p => { p with oamaddr := d }
  | 4 => s.mapPpu (Ppu.writeOam d)
  | 5 => s.mapPpu (Ppu.writeScroll d)
  | 6 => s.mapPpu (Ppu.writeAddr d)
  | 7 => writeData d s
  | _ => s

end Sys2Proof.Machine
end

