-- ==== Sys2Proof/Machine/Bus.lean ====
section
/-! DEFINITION. The CPU bus: address decoding, OAM DMA, controllers, the DMC memory reader
(20_memory.md R103 to R109, 61_bus_clocking.md R460 to R472, 63_apu.md R620, R664). -/

namespace Sys2Proof.Machine

/-! ## Controllers (R470, R471) -/

/-- A port while strobe is high: the latch reloads and the index returns to 0. -/
def Port.reload (p : Port) : Port := { p with latch := p.buttons, index := 0 }

/-- `ControllerStrobe(d)` (R470). -/
def Controllers.writeStrobe (d : Byte) (c : Controllers) : Controllers :=
  let on := d.getLsbD 0
  { port0 := applyWhen on Port.reload c.port0, port1 := applyWhen on Port.reload c.port1, strobe := on }

/-- `ControllerRead(p)` on one port (R471). -/
def Port.shiftRead (strobe : Bool) (p : Port) : Port × Byte :=
  let q := applyWhen strobe Port.reload p
  if 8 ≤ q.index then (q, 1)
  else (if strobe then q else { q with index := q.index + 1 }, boolBit 8 (q.latch.getLsbD q.index))

/-- A read of $4016 (`second` false) or $4017 (R471). -/
def controllerRead (second : Bool) (s : State) : State × Byte :=
  if second then
    let r := s.ctrl.port1.shiftRead s.ctrl.strobe
    ({ s with ctrl := { s.ctrl with port1 := r.1 } }, r.2)
  else
    let r := s.ctrl.port0.shiftRead s.ctrl.strobe
    ({ s with ctrl := { s.ctrl with port0 := r.1 } }, r.2)

/-! ## Reads (R105) -/

/-- `ApuStatusRead()`, which clears the frame IRQ flag (R611). -/
def apuStatusRead (s : State) : State × Byte :=
  (s.mapApu fun a => { a with frameIrq := false }, s.apu.status)

/-- The index of an internal RAM address in the 2 KiB (R103). -/
def ramIndex (a : Word) : Nat := (a &&& 0x07FF).toNat

/-- A cartridge read: 0 with no cartridge or when the mapper does not handle the address (R105, D13, D31). -/
def State.cartRead (s : State) (a : Word) : Byte :=
  match s.cart with
  | none => 0
  | some c => (c.cpuRead a).getD 0

/-- `MemRead(addr)`: the CPU bus read of one byte with its side effects (R105). -/
def memRead (a : Word) (s : State) : State × Byte :=
  if 0x4020 ≤ a.toNat then (s, s.cartRead a)
  else if a.toNat ≤ 0x1FFF then (s, s.ram.read (ramIndex a))
  else if a.toNat ≤ 0x3FFF then ppuRegRead (a &&& 7).toNat s
  else if a.toNat = 0x4015 then apuStatusRead s
  else if a.toNat = 0x4016 then controllerRead false s
  else if a.toNat = 0x4017 then controllerRead true s
  else (s, 0)

/-- `MemRead16(a)`: low byte first, the high byte at `a + 1` modulo 2^16 (00_scope.md R12). -/
def memRead16 (a : Word) (s : State) : State × Word :=
  let (s1, lo) := memRead a s
  let (s2, hi) := memRead (a + 1) s1
  (s2, mkWord hi lo)

/-! ## OAM DMA (R460) -/

/-- The copy of `OamDma(p)` for the listed indices, in order. -/
def oamCopy (p : Byte) : List Nat → State → State
  | [], s => s
  | i :: rest, s =>
    let (s1, b) := memRead (zext16 p * 0x100 + BitVec.ofNat 16 i) s
    oamCopy p rest (s1.mapPpu fun u => { u with oam := u.oam.write ((u.oamaddr.toNat + i) % 256) b })

/-- `OamDma(p)`: the whole copy and the stall of 513 or 514 cycles (R460, D12). -/
def oamDma (p : Byte) (s : State) : State :=
  let s1 := oamCopy p (List.range 256) s
  { s1 with cpu := { s1.cpu with dmaStall := 513 + s1.cpu.totalCycles.toNat % 2 } }

/-! ## Writes (R106) -/

/-- A write of internal RAM. -/
def State.writeRam (s : State) (a : Word) (v : Byte) : State := { s with ram := s.ram.write (ramIndex a) v }

/-- `MemWrite(addr, v)`: the CPU bus write of one byte (R106); $4018-$401F ignore it (D56). -/
def memWrite (a : Word) (v : Byte) (s : State) : State :=
  if 0x4020 ≤ a.toNat then s.mapCart fun c => c.cpuWrite a v
  else if a.toNat ≤ 0x1FFF then s.writeRam a v
  else if a.toNat ≤ 0x3FFF then ppuRegWrite (a &&& 7).toNat v s
  else if a.toNat = 0x4014 then oamDma v s
  else if a.toNat = 0x4016 then { s with ctrl := s.ctrl.writeStrobe v }
  else if a.toNat ≤ 0x4013 ∨ a.toNat = 0x4015 ∨ a.toNat = 0x4017 then
    s.mapApu (Apu.writeRegister (a.toNat - 0x4000) v)
  else s

/-! ## The DMC memory reader and the APU clock (R620, R664) -/

/-- The DMC after it received a sample byte, with the IRQ flag it leaves (R664). -/
def dmcReceive (b : Byte) (a : Apu) : Apu :=
  let c1 : Dmc :=
    { a.dmc with
      buffer := b, bufferFull := true
      curAddr := if a.dmc.curAddr = 0xFFFF then 0x8000 else a.dmc.curAddr + 1
      bytesLeft := a.dmc.bytesLeft - 1 }
  if c1.bytesLeft = 0 then
    if c1.loop then { a with dmc := c1.restart }
    else { a with dmc := c1, dmcIrq := a.dmcIrq || c1.irqEn }
  else { a with dmc := c1 }

/-- `DmcFill()` (R664): a CPU bus read that stalls nothing (D40). -/
def dmcFill (s : State) : State :=
  if s.apu.dmc.bufferFull = false ∧ s.apu.dmc.bytesLeft ≠ 0 then
    let (s1, b) := memRead s.apu.dmc.curAddr s
    s1.mapApu (dmcReceive b)
  else s

/-- `ApuClock()` (R620). -/
def apuClock (s : State) : State := dmcFill (s.mapApu (Apu.clock s.config.apuFrameScale))

end Sys2Proof.Machine
end

