-- ==== Sys2Proof/Machine/Ops.lean ====
section
/-! DEFINITION. Named operations over the CPU registers and the stack, the interrupt entry and the return from
it (10_state.md R30 to R42, 42_stack.md R240, 60_exceptions.md R410, R412). Memory is reached through `memRead`
and `memWrite` of Machine/Bus.lean alone (20_memory.md R108, R109). -/

namespace Sys2Proof.Machine

/-! ## Register writes -/

/-- `A <- v`. -/
def State.setA (v : Byte) (s : State) : State := { s with cpu := { s.cpu with a := v } }

/-- `X <- v`. -/
def State.setX (v : Byte) (s : State) : State := { s with cpu := { s.cpu with x := v } }

/-- `Y <- v`. -/
def State.setY (v : Byte) (s : State) : State := { s with cpu := { s.cpu with y := v } }

/-- `SP <- v`. -/
def State.setSp (v : Byte) (s : State) : State := { s with cpu := { s.cpu with sp := v } }

/-- `P <- v`. -/
def State.setP (v : Byte) (s : State) : State := { s with cpu := { s.cpu with p := v } }

/-- `PC <- v`. -/
def State.setPc (v : Word) (s : State) : State := { s with cpu := { s.cpu with pc := v } }

/-- `opcode <- v`. -/
def State.setOpcode (v : Byte) (s : State) : State := { s with cpu := { s.cpu with opcode := v } }

/-- `fetched <- v`. -/
def State.setFetched (v : Byte) (s : State) : State := { s with cpu := { s.cpu with fetched := v } }

/-- `addr_abs <- v`. -/
def State.setAddrAbs (v : Word) (s : State) : State := { s with cpu := { s.cpu with addrAbs := v } }

/-- `addr_rel <- v`. -/
def State.setAddrRel (v : Word) (s : State) : State := { s with cpu := { s.cpu with addrRel := v } }

/-- `cycles <- v`. -/
def State.setCycles (v : Nat) (s : State) : State := { s with cpu := { s.cpu with cycles := v } }

/-- `dma_stall <- v`. -/
def State.setDmaStall (v : Nat) (s : State) : State := { s with cpu := { s.cpu with dmaStall := v } }

/-- `nmi_pending <- v`. -/
def State.setNmiPending (v : Bool) (s : State) : State := { s with cpu := { s.cpu with nmiPending := v } }

/-- `irq_pending <- v`. -/
def State.setIrqPending (v : Bool) (s : State) : State := { s with cpu := { s.cpu with irqPending := v } }

/-! ## The stack (R240) -/

/-- The address of the byte that a stack pointer names, in page 1 (R31). -/
def stackAddr (sp : Byte) : Word := 0x0100#16 + zext16 sp

/-- `Push(v)`: write, then decrement modulo 256 (R240). -/
def push (v : Byte) (s : State) : State :=
  let s1 := memWrite (stackAddr s.cpu.sp) v s
  s1.setSp (s1.cpu.sp - 1)

/-- `Pull()`: increment modulo 256, then read (R240). -/
def pull (s : State) : State × Byte :=
  let s1 := s.setSp (s.cpu.sp + 1)
  memRead (stackAddr s1.cpu.sp) s1

/-- A word pushed high byte first (20_memory.md R112). -/
def pushWord (w : Word) (s : State) : State := push (loByte w) (push (hiByte w) s)

/-- A word pulled low byte first. -/
def pullWord (s : State) : State × Word :=
  let (s1, lo) := pull s
  let (s2, hi) := pull s1
  (s2, mkWord hi lo)

/-! ## P on the stack (R34, R35, D3) -/

/-- The pushed copy of P: B as given, U = 1 (R410). -/
def pushedP (b : Bool) (p : Byte) : Byte := (p &&& ~~~0x10#8) ||| (boolBit 8 b <<< 4) ||| 0x20

/-- P loaded from a pulled byte: B = 0, U = 1 (R244, R304). -/
def pulledP (m : Byte) : Byte := (m &&& 0xCF) ||| 0x20

/-- P with flag I set (R40). -/
def withI (p : Byte) : Byte := p ||| 0x04

/-- P with flag U set (40_addressing.md R180, R34). -/
def withU (p : Byte) : Byte := p ||| 0x20

/-! ## Interrupt entry and return (R410, R304, R412) -/

/-- The NMI vector (R401). -/
def nmiVector : Word := 0xFFFA

/-- The reset vector (R401). -/
def resetVector : Word := 0xFFFC

/-- The IRQ and BRK vector (R401). -/
def irqVector : Word := 0xFFFE

/-- `Interrupt(vector, b)`: PC and P are pushed, I is set and PC is loaded from the vector (R410). -/
def interrupt (vector : Word) (b : Bool) (s : State) : State :=
  let s1 := push (pushedP b s.cpu.p) (pushWord s.cpu.pc s)
  let s2 := s1.setP (withI s1.cpu.p)
  let (s3, target) := memRead16 vector s2
  s3.setPc target

/-- The return from an interrupt: P, then PC low, then PC high, with no +1 (R304, R412). -/
def returnFromInterrupt (s : State) : State :=
  let (s1, m) := pull s
  let (s2, target) := pullWord (s1.setP (pulledP m))
  s2.setPc target

end Sys2Proof.Machine
end

