-- ==== Sys2Proof/Machine/Flags.lean ====
section
/-! DEFINITION. The flags of P and every flag computation (10_state.md R33 to R41, 43_arith_logic.md R250 to
R259, 44_shift_rotate.md R291 to R294, 47_unofficial.md R351). -/

namespace Sys2Proof.Machine

/-- The eight flags of P (R33). -/
inductive Flag where
  | c
  | z
  | i
  | d
  | b
  | u
  | v
  | n
  deriving DecidableEq, Repr

/-- The bit position of a flag (R33). -/
def Flag.bit : Flag → Nat
  | .c => 0
  | .z => 1
  | .i => 2
  | .d => 3
  | .b => 4
  | .u => 5
  | .v => 6
  | .n => 7

/-- A flag of a status byte. -/
def flagOf (f : Flag) (p : Byte) : Bool := p.getLsbD f.bit

/-- A status byte with one flag replaced. -/
def putFlag (f : Flag) (v : Bool) (p : Byte) : Byte :=
  if v then p ||| (1#8 <<< f.bit) else p &&& ~~~(1#8 <<< f.bit)

/-- `P.f`. -/
def State.flag (f : Flag) (s : State) : Bool := flagOf f s.cpu.p

/-- `P.f <- v`. -/
def State.setFlag (f : Flag) (v : Bool) (s : State) : State := s.setP (putFlag f v s.cpu.p)

/-- `flagsNZ(r)` (00_scope.md R14). -/
def flagsNZ (r : Byte) (s : State) : State := (s.setFlag .z (decide (r = 0))).setFlag .n (r.getLsbD 7)

/-- The 9-bit sum of R250. -/
def addSum (a m : Byte) (c : Bool) : BitVec 9 := a.setWidth 9 + m.setWidth 9 + boolBit 9 c

/-- The signed-overflow pattern of R252. -/
def addOverflow (a m r : Byte) : Bool := decide ((~~~(a ^^^ m)) &&& (a ^^^ r) &&& 0x80 ≠ 0)

/-- `AddCore(m)`: binary whatever D is (R250, R251). -/
def addCore (m : Byte) (s : State) : State :=
  let sum := addSum s.cpu.a m (s.flag .c)
  let r : Byte := sum.extractLsb' 0 8
  let s1 := s.setFlag .c (sum.getLsbD 8)
  let s2 := s1.setFlag .v (addOverflow s.cpu.a m r)
  flagsNZ r (s2.setA r)

/-- `Compare(r, m)` (R259). -/
def compare (r m : Byte) (s : State) : State :=
  let s1 := s.setFlag .c (decide (m.toNat ≤ r.toNat))
  let s2 := s1.setFlag .z (decide (r = m))
  s2.setFlag .n ((r - m).getLsbD 7)

/-- The result of ASL and its carry (R291). -/
def shiftLeft (m : Byte) : Byte × Bool := (m <<< 1, m.getLsbD 7)

/-- The result of LSR and its carry (R292). -/
def shiftRight (m : Byte) : Byte × Bool := (m >>> 1, m.getLsbD 0)

/-- The result of ROL and its carry (R293). -/
def rotateLeft (c : Bool) (m : Byte) : Byte × Bool := ((m <<< 1) ||| boolBit 8 c, m.getLsbD 7)

/-- The result of ROR and its carry (R294). -/
def rotateRight (c : Bool) (m : Byte) : Byte × Bool := ((m >>> 1) ||| (boolBit 8 c <<< 7), m.getLsbD 0)

end Sys2Proof.Machine
end

