-- ==== Sys2Proof/Machine/Operands.lean ====
section
/-! DEFINITION. The thirteen addressing modes and the operand helpers (40_addressing.md R181 to R196).
The operand bytes are fetched by the step (Machine/CpuClock.lean) in the order of R152, before the mode runs;
PC then holds the address of the byte after the instruction (R199). -/

namespace Sys2Proof.Machine

/-- What `Load()` and `Store(v)` act on: A in mode ACC, the operand byte in mode IMM, otherwise the byte at
`addr_abs` (R182, R183, R196). -/
inductive Operand where
  | accumulator
  | immediate (b : Byte)
  | memory
  deriving DecidableEq, Repr

/-- What a mode leaves: the state, the operand and the page-cross report. -/
structure Access where
  state : State
  operand : Operand
  crossed : Bool

/-- An effective address in memory. -/
def Access.at (ea : Word) (crossed : Bool) (s : State) : Access :=
  { state := s.setAddrAbs ea, operand := .memory, crossed := crossed }

/-- The two addresses lie in different pages (R194). -/
def pageCrossed (base ea : Word) : Bool := decide (hiByte ea ≠ hiByte base)

/-- `ZpRead16(z)`: low byte first, the high byte at `z + 1` modulo 256 (00_scope.md R12). -/
def zpRead16 (z : Byte) (s : State) : State × Word :=
  let (s1, lo) := memRead (zext16 z) s
  let (s2, hi) := memRead (zext16 (z + 1)) s1
  (s2, mkWord hi lo)

/-- IMP (R181). -/
def modeImp (s : State) : Access := { state := s, operand := .memory, crossed := false }

/-- ACC (R182). -/
def modeAcc (s : State) : Access := { state := s, operand := .accumulator, crossed := false }

/-- IMM: `addr_abs` is the address of the operand byte, which is read once (R183). -/
def modeImm (imm : Byte) (s : State) : Access :=
  { state := s.setAddrAbs (s.cpu.pc - 1), operand := .immediate imm, crossed := false }

/-- ZP (R184). -/
def modeZp (z : Byte) (s : State) : Access := Access.at (zext16 z) false s

/-- ZPX: the sum wraps within the zero page (R185). -/
def modeZpx (z : Byte) (s : State) : Access := Access.at (zext16 (z + s.cpu.x)) false s

/-- ZPY (R186). -/
def modeZpy (z : Byte) (s : State) : Access := Access.at (zext16 (z + s.cpu.y)) false s

/-- ABS (R187). -/
def modeAbs (addr : Word) (s : State) : Access := Access.at addr false s

/-- ABX (R188). -/
def modeAbx (addr : Word) (s : State) : Access :=
  let ea := addr + zext16 s.cpu.x
  Access.at ea (pageCrossed addr ea) s

/-- ABY (R189). -/
def modeAby (addr : Word) (s : State) : Access :=
  let ea := addr + zext16 s.cpu.y
  Access.at ea (pageCrossed addr ea) s

/-- IND: the second pointer byte comes from the page of the first (R190). -/
def modeInd (ptr : Word) (s : State) : Access :=
  let (s1, lo) := memRead ptr s
  let (s2, hi) := memRead (mkWord (hiByte ptr) (loByte ptr + 1)) s1
  Access.at (mkWord hi lo) false s2

/-- IZX (R191). -/
def modeIzx (z : Byte) (s : State) : Access :=
  let (s1, ea) := zpRead16 (z + s.cpu.x) s
  Access.at ea false s1

/-- IZY (R192). -/
def modeIzy (z : Byte) (s : State) : Access :=
  let (s1, base) := zpRead16 z s
  let ea := base + zext16 s1.cpu.y
  Access.at ea (pageCrossed base ea) s1

/-- REL (R193). -/
def modeRel (rel : Byte) (s : State) : Access :=
  { state := s.setAddrRel (sext16 rel), operand := .memory, crossed := false }

/-- `Mode[m]` with its operand bytes (R180); the second byte is 0 for the two-byte modes. -/
def access (m : Mode) (b1 b2 : Byte) : State → Access :=
  match m with
  | .imp => modeImp
  | .acc => modeAcc
  | .imm => modeImm b1
  | .zp => modeZp b1
  | .zpx => modeZpx b1
  | .zpy => modeZpy b1
  | .abs => modeAbs (mkWord b2 b1)
  | .abx => modeAbx (mkWord b2 b1)
  | .aby => modeAby (mkWord b2 b1)
  | .ind => modeInd (mkWord b2 b1)
  | .izx => modeIzx b1
  | .izy => modeIzy b1
  | .rel => modeRel b1

/-- `Load()`: the instruction's one data read; `fetched` keeps its value (R196). -/
def load (o : Operand) (s : State) : State × Byte :=
  match o with
  | .accumulator => (s.setFetched s.cpu.a, s.cpu.a)
  | .immediate b => (s.setFetched b, b)
  | .memory =>
    let (s1, m) := memRead s.cpu.addrAbs s
    (s1.setFetched m, m)

/-- `Store(v)`: the instruction's one data write (R196). -/
def store (o : Operand) (v : Byte) (s : State) : State :=
  match o with
  | .accumulator => s.setA v
  | .immediate _ => memWrite s.cpu.addrAbs v s
  | .memory => memWrite s.cpu.addrAbs v s

/-! ## The frame of every instruction (R180, R195) -/

/-- The cycle total: base, page cross, branch penalty and the DMA stall of this clock (R195). -/
def finishCycles (n : Nat) (s : State) : State := (s.setCycles (n + s.cpu.dmaStall)).setDmaStall 0

/-- An instruction that is not a branch: its mode, its operation, its cycle total (R180).
`pays` is `ReadClass(opcode)` (R197). -/
def perform (base : Nat) (pays : Bool) (mode : State → Access) (op : Operand → State → State) (s : State) :
    Host.Outcome State Fault Refusal :=
  let acc := mode (s.setDmaStall 0)
  .next (finishCycles (base + (if acc.crossed && pays then 1 else 0)) (op acc.operand acc.state))

/-- `Branch(cond)`: the state and the branch penalty (45_control_flow.md R306). -/
def branch (cond : Bool) (s : State) : State × Nat :=
  let target := s.cpu.pc + s.cpu.addrRel
  if cond then (s.setPc target, if pageCrossed s.cpu.pc target then 2 else 1) else (s, 0)

/-- A branch instruction: base 2 cycles and the penalty (R306). -/
def performBranch (rel : Byte) (cond : State → Bool) (s : State) : Host.Outcome State Fault Refusal :=
  let acc := modeRel rel (s.setDmaStall 0)
  let r := branch (cond acc.state) acc.state
  .next (finishCycles (2 + r.2) r.1)

end Sys2Proof.Machine
end

