-- ==== Sys2Proof/Machine/Arith.lean ====
section
/-! DEFINITION. Arithmetic, logic, compare, increment and decrement (43_arith_logic.md).
The operation of each mnemonic, then the meaning of each opcode: its mode, its cycles and its operation (30_encoding.md R160). -/

namespace Sys2Proof.Machine

/-! ## Operations -/

/-- ADC (R253). -/
def opAdc (o : Operand) (s : State) : State :=
  let (s1, m) := load o s
  addCore m s1

/-- SBC: the complemented operand is added (R254). -/
def opSbc (o : Operand) (s : State) : State :=
  let (s1, m) := load o s
  addCore (m ^^^ 0xFF) s1

/-- AND (R255). -/
def opAnd (o : Operand) (s : State) : State :=
  let (s1, m) := load o s
  let r := s1.cpu.a &&& m
  flagsNZ r (s1.setA r)

/-- ORA (R256). -/
def opOra (o : Operand) (s : State) : State :=
  let (s1, m) := load o s
  let r := s1.cpu.a ||| m
  flagsNZ r (s1.setA r)

/-- EOR (R257). -/
def opEor (o : Operand) (s : State) : State :=
  let (s1, m) := load o s
  let r := s1.cpu.a ^^^ m
  flagsNZ r (s1.setA r)

/-- BIT: N and V come from the memory byte (R258). -/
def opBit (o : Operand) (s : State) : State :=
  let (s1, m) := load o s
  let s2 := s1.setFlag .z (decide (s1.cpu.a &&& m = 0))
  (s2.setFlag .n (m.getLsbD 7)).setFlag .v (m.getLsbD 6)

/-- CMP (R260). -/
def opCmp (o : Operand) (s : State) : State :=
  let (s1, m) := load o s
  compare s1.cpu.a m s1

/-- CPX (R261). -/
def opCpx (o : Operand) (s : State) : State :=
  let (s1, m) := load o s
  compare s1.cpu.x m s1

/-- CPY (R262). -/
def opCpy (o : Operand) (s : State) : State :=
  let (s1, m) := load o s
  compare s1.cpu.y m s1

/-- INC: one read and one write (R263). -/
def opInc (o : Operand) (s : State) : State :=
  let (s1, m) := load o s
  let r := m + 1
  flagsNZ r (store o r s1)

/-- DEC: one read and one write (R264). -/
def opDec (o : Operand) (s : State) : State :=
  let (s1, m) := load o s
  let r := m - 1
  flagsNZ r (store o r s1)

/-- INX (R265). -/
def opInx (_o : Operand) (s : State) : State :=
  let r := s.cpu.x + 1
  flagsNZ r (s.setX r)

/-- INY (R266). -/
def opIny (_o : Operand) (s : State) : State :=
  let r := s.cpu.y + 1
  flagsNZ r (s.setY r)

/-- DEX (R267). -/
def opDex (_o : Operand) (s : State) : State :=
  let r := s.cpu.x - 1
  flagsNZ r (s.setX r)

/-- DEY (R268). -/
def opDey (_o : Operand) (s : State) : State :=
  let r := s.cpu.y - 1
  flagsNZ r (s.setY r)

/-! ## Meanings -/

/-- $01 ORA IZX (R256). -/
def execOraIzx (z : Byte) (s : State) : Host.Outcome State Fault Refusal :=
  perform 6 false (modeIzx z) opOra s

/-- $05 ORA ZP (R256). -/
def execOraZp (z : Byte) (s : State) : Host.Outcome State Fault Refusal :=
  perform 3 false (modeZp z) opOra s

/-- $09 ORA IMM (R256). -/
def execOraImm (imm : Byte) (s : State) : Host.Outcome State Fault Refusal :=
  perform 2 false (modeImm imm) opOra s

/-- $0D ORA ABS (R256). -/
def execOraAbs (addr : Word) (s : State) : Host.Outcome State Fault Refusal :=
  perform 4 false (modeAbs addr) opOra s

/-- $11 ORA IZY (R256). -/
def execOraIzy (z : Byte) (s : State) : Host.Outcome State Fault Refusal :=
  perform 5 true (modeIzy z) opOra s

/-- $15 ORA ZPX (R256). -/
def execOraZpx (z : Byte) (s : State) : Host.Outcome State Fault Refusal :=
  perform 4 false (modeZpx z) opOra s

/-- $19 ORA ABY (R256). -/
def execOraAby (addr : Word) (s : State) : Host.Outcome State Fault Refusal :=
  perform 4 true (modeAby addr) opOra s

/-- $1D ORA ABX (R256). -/
def execOraAbx (addr : Word) (s : State) : Host.Outcome State Fault Refusal :=
  perform 4 true (modeAbx addr) opOra s

/-- $21 AND IZX (R255). -/
def execAndIzx (z : Byte) (s : State) : Host.Outcome State Fault Refusal :=
  perform 6 false (modeIzx z) opAnd s

/-- $24 BIT ZP (R258). -/
def execBitZp (z : Byte) (s : State) : Host.Outcome State Fault Refusal :=
  perform 3 false (modeZp z) opBit s

/-- $25 AND ZP (R255). -/
def execAndZp (z : Byte) (s : State) : Host.Outcome State Fault Refusal :=
  perform 3 false (modeZp z) opAnd s

/-- $29 AND IMM (R255). -/
def execAndImm (imm : Byte) (s : State) : Host.Outcome State Fault Refusal :=
  perform 2 false (modeImm imm) opAnd s

/-- $2C BIT ABS (R258). -/
def execBitAbs (addr : Word) (s : State) : Host.Outcome State Fault Refusal :=
  perform 4 false (modeAbs addr) opBit s

/-- $2D AND ABS (R255). -/
def execAndAbs (addr : Word) (s : State) : Host.Outcome State Fault Refusal :=
  perform 4 false (modeAbs addr) opAnd s

/-- $31 AND IZY (R255). -/
def execAndIzy (z : Byte) (s : State) : Host.Outcome State Fault Refusal :=
  perform 5 true (modeIzy z) opAnd s

/-- $35 AND ZPX (R255). -/
def execAndZpx (z : Byte) (s : State) : Host.Outcome State Fault Refusal :=
  perform 4 false (modeZpx z) opAnd s

/-- $39 AND ABY (R255). -/
def execAndAby (addr : Word) (s : State) : Host.Outcome State Fault Refusal :=
  perform 4 true (modeAby addr) opAnd s

/-- $3D AND ABX (R255). -/
def execAndAbx (addr : Word) (s : State) : Host.Outcome State Fault Refusal :=
  perform 4 true (modeAbx addr) opAnd s

/-- $41 EOR IZX (R257). -/
def execEorIzx (z : Byte) (s : State) : Host.Outcome State Fault Refusal :=
  perform 6 false (modeIzx z) opEor s

/-- $45 EOR ZP (R257). -/
def execEorZp (z : Byte) (s : State) : Host.Outcome State Fault Refusal :=
  perform 3 false (modeZp z) opEor s

/-- $49 EOR IMM (R257). -/
def execEorImm (imm : Byte) (s : State) : Host.Outcome State Fault Refusal :=
  perform 2 false (modeImm imm) opEor s

/-- $4D EOR ABS (R257). -/
def execEorAbs (addr : Word) (s : State) : Host.Outcome State Fault Refusal :=
  perform 4 false (modeAbs addr) opEor s

/-- $51 EOR IZY (R257). -/
def execEorIzy (z : Byte) (s : State) : Host.Outcome State Fault Refusal :=
  perform 5 true (modeIzy z) opEor s

/-- $55 EOR ZPX (R257). -/
def execEorZpx (z : Byte) (s : State) : Host.Outcome State Fault Refusal :=
  perform 4 false (modeZpx z) opEor s

/-- $59 EOR ABY (R257). -/
def execEorAby (addr : Word) (s : State) : Host.Outcome State Fault Refusal :=
  perform 4 true (modeAby addr) opEor s

/-- $5D EOR ABX (R257). -/
def execEorAbx (addr : Word) (s : State) : Host.Outcome State Fault Refusal :=
  perform 4 true (modeAbx addr) opEor s

/-- $61 ADC IZX (R253). -/
def execAdcIzx (z : Byte) (s : State) : Host.Outcome State Fault Refusal :=
  perform 6 false (modeIzx z) opAdc s

/-- $65 ADC ZP (R253). -/
def execAdcZp (z : Byte) (s : State) : Host.Outcome State Fault Refusal :=
  perform 3 false (modeZp z) opAdc s

/-- $69 ADC IMM (R253). -/
def execAdcImm (imm : Byte) (s : State) : Host.Outcome State Fault Refusal :=
  perform 2 false (modeImm imm) opAdc s

/-- $6D ADC ABS (R253). -/
def execAdcAbs (addr : Word) (s : State) : Host.Outcome State Fault Refusal :=
  perform 4 false (modeAbs addr) opAdc s

/-- $71 ADC IZY (R253). -/
def execAdcIzy (z : Byte) (s : State) : Host.Outcome State Fault Refusal :=
  perform 5 true (modeIzy z) opAdc s

/-- $75 ADC ZPX (R253). -/
def execAdcZpx (z : Byte) (s : State) : Host.Outcome State Fault Refusal :=
  perform 4 false (modeZpx z) opAdc s

/-- $79 ADC ABY (R253). -/
def execAdcAby (addr : Word) (s : State) : Host.Outcome State Fault Refusal :=
  perform 4 true (modeAby addr) opAdc s

/-- $7D ADC ABX (R253). -/
def execAdcAbx (addr : Word) (s : State) : Host.Outcome State Fault Refusal :=
  perform 4 true (modeAbx addr) opAdc s

/-- $88 DEY IMP (R268). -/
def execDey (s : State) : Host.Outcome State Fault Refusal :=
  perform 2 false modeImp opDey s

/-- $C0 CPY IMM (R262). -/
def execCpyImm (imm : Byte) (s : State) : Host.Outcome State Fault Refusal :=
  perform 2 false (modeImm imm) opCpy s

/-- $C1 CMP IZX (R260). -/
def execCmpIzx (z : Byte) (s : State) : Host.Outcome State Fault Refusal :=
  perform 6 false (modeIzx z) opCmp s

/-- $C4 CPY ZP (R262). -/
def execCpyZp (z : Byte) (s : State) : Host.Outcome State Fault Refusal :=
  perform 3 false (modeZp z) opCpy s

/-- $C5 CMP ZP (R260). -/
def execCmpZp (z : Byte) (s : State) : Host.Outcome State Fault Refusal :=
  perform 3 false (modeZp z) opCmp s

/-- $C6 DEC ZP (R264). -/
def execDecZp (z : Byte) (s : State) : Host.Outcome State Fault Refusal :=
  perform 5 false (modeZp z) opDec s

/-- $C8 INY IMP (R266). -/
def execIny (s : State) : Host.Outcome State Fault Refusal :=
  perform 2 false modeImp opIny s

/-- $C9 CMP IMM (R260). -/
def execCmpImm (imm : Byte) (s : State) : Host.Outcome State Fault Refusal :=
  perform 2 false (modeImm imm) opCmp s

/-- $CA DEX IMP (R267). -/
def execDex (s : State) : Host.Outcome State Fault Refusal :=
  perform 2 false modeImp opDex s

/-- $CC CPY ABS (R262). -/
def execCpyAbs (addr : Word) (s : State) : Host.Outcome State Fault Refusal :=
  perform 4 false (modeAbs addr) opCpy s

/-- $CD CMP ABS (R260). -/
def execCmpAbs (addr : Word) (s : State) : Host.Outcome State Fault Refusal :=
  perform 4 false (modeAbs addr) opCmp s

/-- $CE DEC ABS (R264). -/
def execDecAbs (addr : Word) (s : State) : Host.Outcome State Fault Refusal :=
  perform 6 false (modeAbs addr) opDec s

/-- $D1 CMP IZY (R260). -/
def execCmpIzy (z : Byte) (s : State) : Host.Outcome State Fault Refusal :=
  perform 5 true (modeIzy z) opCmp s

/-- $D5 CMP ZPX (R260). -/
def execCmpZpx (z : Byte) (s : State) : Host.Outcome State Fault Refusal :=
  perform 4 false (modeZpx z) opCmp s

/-- $D6 DEC ZPX (R264). -/
def execDecZpx (z : Byte) (s : State) : Host.Outcome State Fault Refusal :=
  perform 6 false (modeZpx z) opDec s

/-- $D9 CMP ABY (R260). -/
def execCmpAby (addr : Word) (s : State) : Host.Outcome State Fault Refusal :=
  perform 4 true (modeAby addr) opCmp s

/-- $DD CMP ABX (R260). -/
def execCmpAbx (addr : Word) (s : State) : Host.Outcome State Fault Refusal :=
  perform 4 true (modeAbx addr) opCmp s

/-- $DE DEC ABX (R264). -/
def execDecAbx (addr : Word) (s : State) : Host.Outcome State Fault Refusal :=
  perform 7 false (modeAbx addr) opDec s

/-- $E0 CPX IMM (R261). -/
def execCpxImm (imm : Byte) (s : State) : Host.Outcome State Fault Refusal :=
  perform 2 false (modeImm imm) opCpx s

/-- $E1 SBC IZX (R254). -/
def execSbcIzx (z : Byte) (s : State) : Host.Outcome State Fault Refusal :=
  perform 6 false (modeIzx z) opSbc s

/-- $E4 CPX ZP (R261). -/
def execCpxZp (z : Byte) (s : State) : Host.Outcome State Fault Refusal :=
  perform 3 false (modeZp z) opCpx s

/-- $E5 SBC ZP (R254). -/
def execSbcZp (z : Byte) (s : State) : Host.Outcome State Fault Refusal :=
  perform 3 false (modeZp z) opSbc s

/-- $E6 INC ZP (R263). -/
def execIncZp (z : Byte) (s : State) : Host.Outcome State Fault Refusal :=
  perform 5 false (modeZp z) opInc s

/-- $E8 INX IMP (R265). -/
def execInx (s : State) : Host.Outcome State Fault Refusal :=
  perform 2 false modeImp opInx s

/-- $E9 SBC IMM (R254). -/
def execSbcImm (imm : Byte) (s : State) : Host.Outcome State Fault Refusal :=
  perform 2 false (modeImm imm) opSbc s

/-- $EC CPX ABS (R261). -/
def execCpxAbs (addr : Word) (s : State) : Host.Outcome State Fault Refusal :=
  perform 4 false (modeAbs addr) opCpx s

/-- $ED SBC ABS (R254). -/
def execSbcAbs (addr : Word) (s : State) : Host.Outcome State Fault Refusal :=
  perform 4 false (modeAbs addr) opSbc s

/-- $EE INC ABS (R263). -/
def execIncAbs (addr : Word) (s : State) : Host.Outcome State Fault Refusal :=
  perform 6 false (modeAbs addr) opInc s

/-- $F1 SBC IZY (R254). -/
def execSbcIzy (z : Byte) (s : State) : Host.Outcome State Fault Refusal :=
  perform 5 true (modeIzy z) opSbc s

/-- $F5 SBC ZPX (R254). -/
def execSbcZpx (z : Byte) (s : State) : Host.Outcome State Fault Refusal :=
  perform 4 false (modeZpx z) opSbc s

/-- $F6 INC ZPX (R263). -/
def execIncZpx (z : Byte) (s : State) : Host.Outcome State Fault Refusal :=
  perform 6 false (modeZpx z) opInc s

/-- $F9 SBC ABY (R254). -/
def execSbcAby (addr : Word) (s : State) : Host.Outcome State Fault Refusal :=
  perform 4 true (modeAby addr) opSbc s

/-- $FD SBC ABX (R254). -/
def execSbcAbx (addr : Word) (s : State) : Host.Outcome State Fault Refusal :=
  perform 4 true (modeAbx addr) opSbc s

/-- $FE INC ABX (R263). -/
def execIncAbx (addr : Word) (s : State) : Host.Outcome State Fault Refusal :=
  perform 7 false (modeAbx addr) opInc s

end Sys2Proof.Machine
end

