-- ==== Sys2Proof/Machine/Control.lean ====
section
/-! DEFINITION. Jumps, subroutines, returns, BRK and branches (45_control_flow.md).
The operation of each mnemonic, then the meaning of each opcode: its mode, its cycles and its operation (30_encoding.md R160). -/

namespace Sys2Proof.Machine

/-! ## Operations -/

/-- JMP: `PC <- addr_abs`, whatever mode left it there (R300, R301). -/
def opJmp (_o : Operand) (s : State) : State :=
  s.setPc s.cpu.addrAbs

/-- JSR: the address of its last byte is pushed (R302). -/
def opJsr (_o : Operand) (s : State) : State :=
  let s1 := pushWord (s.cpu.pc - 1) s
  s1.setPc s1.cpu.addrAbs

/-- RTS: one more than the pulled address (R303). -/
def opRts (_o : Operand) (s : State) : State :=
  let (s1, w) := pullWord s
  s1.setPc (w + 1)

/-- RTI (R304). -/
def opRti (_o : Operand) (s : State) : State :=
  returnFromInterrupt s

/-- BRK: the interrupt entry with B = 1 and the address of the opcode + 2 pushed (R305, R410). -/
def opBrk (_o : Operand) (s : State) : State :=
  interrupt irqVector true (s.setPc (s.cpu.pc + 1))

/-! ## Meanings -/

/-- $00 BRK IMP (R305). -/
def execBrk (s : State) : Host.Outcome State Fault Refusal :=
  perform 7 false modeImp opBrk s

/-- $10 BPL REL (R312). -/
def execBpl (rel : Byte) (s : State) : Host.Outcome State Fault Refusal :=
  performBranch rel (fun t => !t.flag .n) s

/-- $20 JSR ABS (R302). -/
def execJsr (addr : Word) (s : State) : Host.Outcome State Fault Refusal :=
  perform 6 false (modeAbs addr) opJsr s

/-- $30 BMI REL (R310). -/
def execBmi (rel : Byte) (s : State) : Host.Outcome State Fault Refusal :=
  performBranch rel (fun t => t.flag .n) s

/-- $40 RTI IMP (R304). -/
def execRti (s : State) : Host.Outcome State Fault Refusal :=
  perform 6 false modeImp opRti s

/-- $4C JMP ABS (R300). -/
def execJmpAbs (addr : Word) (s : State) : Host.Outcome State Fault Refusal :=
  perform 3 false (modeAbs addr) opJmp s

/-- $50 BVC REL (R313). -/
def execBvc (rel : Byte) (s : State) : Host.Outcome State Fault Refusal :=
  performBranch rel (fun t => !t.flag .v) s

/-- $60 RTS IMP (R303). -/
def execRts (s : State) : Host.Outcome State Fault Refusal :=
  perform 6 false modeImp opRts s

/-- $6C JMP IND (R301). -/
def execJmpInd (ptr : Word) (s : State) : Host.Outcome State Fault Refusal :=
  perform 5 false (modeInd ptr) opJmp s

/-- $70 BVS REL (R314). -/
def execBvs (rel : Byte) (s : State) : Host.Outcome State Fault Refusal :=
  performBranch rel (fun t => t.flag .v) s

/-- $90 BCC REL (R307). -/
def execBcc (rel : Byte) (s : State) : Host.Outcome State Fault Refusal :=
  performBranch rel (fun t => !t.flag .c) s

/-- $B0 BCS REL (R308). -/
def execBcs (rel : Byte) (s : State) : Host.Outcome State Fault Refusal :=
  performBranch rel (fun t => t.flag .c) s

/-- $D0 BNE REL (R311). -/
def execBne (rel : Byte) (s : State) : Host.Outcome State Fault Refusal :=
  performBranch rel (fun t => !t.flag .z) s

/-- $F0 BEQ REL (R309). -/
def execBeq (rel : Byte) (s : State) : Host.Outcome State Fault Refusal :=
  performBranch rel (fun t => t.flag .z) s

end Sys2Proof.Machine
end

