-- ==== Sys2Proof/Machine/FlagOps.lean ====
section
/-! DEFINITION. Flag instructions and the official NOP (46_flags_nop.md).
The operation of each mnemonic, then the meaning of each opcode: its mode, its cycles and its operation (30_encoding.md R160). -/

namespace Sys2Proof.Machine

/-! ## Operations -/

/-- CLC (R330). -/
def opClc (_o : Operand) (s : State) : State :=
  s.setFlag .c false

/-- CLD (R331). -/
def opCld (_o : Operand) (s : State) : State :=
  s.setFlag .d false

/-- CLI (R332). -/
def opCli (_o : Operand) (s : State) : State :=
  s.setFlag .i false

/-- CLV (R333). -/
def opClv (_o : Operand) (s : State) : State :=
  s.setFlag .v false

/-- SEC (R334). -/
def opSec (_o : Operand) (s : State) : State :=
  s.setFlag .c true

/-- SED (R335). -/
def opSed (_o : Operand) (s : State) : State :=
  s.setFlag .d true

/-- SEI (R336). -/
def opSei (_o : Operand) (s : State) : State :=
  s.setFlag .i true

/-- NOP: nothing (R337, R360, R372). -/
def opNothing (_o : Operand) (s : State) : State :=
  s

/-! ## Meanings -/

/-- $18 CLC IMP (R330). -/
def execClc (s : State) : Host.Outcome State Fault Refusal :=
  perform 2 false modeImp opClc s

/-- $38 SEC IMP (R334). -/
def execSec (s : State) : Host.Outcome State Fault Refusal :=
  perform 2 false modeImp opSec s

/-- $58 CLI IMP (R332). -/
def execCli (s : State) : Host.Outcome State Fault Refusal :=
  perform 2 false modeImp opCli s

/-- $78 SEI IMP (R336). -/
def execSei (s : State) : Host.Outcome State Fault Refusal :=
  perform 2 false modeImp opSei s

/-- $B8 CLV IMP (R333). -/
def execClv (s : State) : Host.Outcome State Fault Refusal :=
  perform 2 false modeImp opClv s

/-- $D8 CLD IMP (R331). -/
def execCld (s : State) : Host.Outcome State Fault Refusal :=
  perform 2 false modeImp opCld s

/-- $EA NOP IMP (R337). -/
def execNop (s : State) : Host.Outcome State Fault Refusal :=
  perform 2 false modeImp opNothing s

/-- $F8 SED IMP (R335). -/
def execSed (s : State) : Host.Outcome State Fault Refusal :=
  perform 2 false modeImp opSed s

end Sys2Proof.Machine
end

