-- ==== Sys2Proof/Machine/LoadStore.lean ====
section
/-! DEFINITION. Loads, stores and register transfers (41_load_store_transfer.md).
The operation of each mnemonic, then the meaning of each opcode: its mode, its cycles and its operation (30_encoding.md R160). -/

namespace Sys2Proof.Machine

/-! ## Operations -/

/-- LDA (R211). -/
def opLda (o : Operand) (s : State) : State :=
  let (s1, m) := load o s
  flagsNZ m (s1.setA m)

/-- LDX (R212). -/
def opLdx (o : Operand) (s : State) : State :=
  let (s1, m) := load o s
  flagsNZ m (s1.setX m)

/-- LDY (R213). -/
def opLdy (o : Operand) (s : State) : State :=
  let (s1, m) := load o s
  flagsNZ m (s1.setY m)

/-- STA (R214). -/
def opSta (o : Operand) (s : State) : State :=
  store o s.cpu.a s

/-- STX (R215). -/
def opStx (o : Operand) (s : State) : State :=
  store o s.cpu.x s

/-- STY (R216). -/
def opSty (o : Operand) (s : State) : State :=
  store o s.cpu.y s

/-- TAX (R217). -/
def opTax (_o : Operand) (s : State) : State :=
  flagsNZ s.cpu.a (s.setX s.cpu.a)

/-- TAY (R218). -/
def opTay (_o : Operand) (s : State) : State :=
  flagsNZ s.cpu.a (s.setY s.cpu.a)

/-- TXA (R219). -/
def opTxa (_o : Operand) (s : State) : State :=
  flagsNZ s.cpu.x (s.setA s.cpu.x)

/-- TYA (R220). -/
def opTya (_o : Operand) (s : State) : State :=
  flagsNZ s.cpu.y (s.setA s.cpu.y)

/-- TSX (R221). -/
def opTsx (_o : Operand) (s : State) : State :=
  flagsNZ s.cpu.sp (s.setX s.cpu.sp)

/-- TXS: no flag (R222). -/
def opTxs (_o : Operand) (s : State) : State :=
  s.setSp s.cpu.x

/-! ## Meanings -/

/-- $81 STA IZX (R214). -/
def execStaIzx (z : Byte) (s : State) : Host.Outcome State Fault Refusal :=
  perform 6 false (modeIzx z) opSta s

/-- $84 STY ZP (R216). -/
def execStyZp (z : Byte) (s : State) : Host.Outcome State Fault Refusal :=
  perform 3 false (modeZp z) opSty s

/-- $85 STA ZP (R214). -/
def execStaZp (z : Byte) (s : State) : Host.Outcome State Fault Refusal :=
  perform 3 false (modeZp z) opSta s

/-- $86 STX ZP (R215). -/
def execStxZp (z : Byte) (s : State) : Host.Outcome State Fault Refusal :=
  perform 3 false (modeZp z) opStx s

/-- $8A TXA IMP (R219). -/
def execTxa (s : State) : Host.Outcome State Fault Refusal :=
  perform 2 false modeImp opTxa s

/-- $8C STY ABS (R216). -/
def execStyAbs (addr : Word) (s : State) : Host.Outcome State Fault Refusal :=
  perform 4 false (modeAbs addr) opSty s

/-- $8D STA ABS (R214). -/
def execStaAbs (addr : Word) (s : State) : Host.Outcome State Fault Refusal :=
  perform 4 false (modeAbs addr) opSta s

/-- $8E STX ABS (R215). -/
def execStxAbs (addr : Word) (s : State) : Host.Outcome State Fault Refusal :=
  perform 4 false (modeAbs addr) opStx s

/-- $91 STA IZY (R214). -/
def execStaIzy (z : Byte) (s : State) : Host.Outcome State Fault Refusal :=
  perform 6 false (modeIzy z) opSta s

/-- $94 STY ZPX (R216). -/
def execStyZpx (z : Byte) (s : State) : Host.Outcome State Fault Refusal :=
  perform 4 false (modeZpx z) opSty s

/-- $95 STA ZPX (R214). -/
def execStaZpx (z : Byte) (s : State) : Host.Outcome State Fault Refusal :=
  perform 4 false (modeZpx z) opSta s

/-- $96 STX ZPY (R215). -/
def execStxZpy (z : Byte) (s : State) : Host.Outcome State Fault Refusal :=
  perform 4 false (modeZpy z) opStx s

/-- $98 TYA IMP (R220). -/
def execTya (s : State) : Host.Outcome State Fault Refusal :=
  perform 2 false modeImp opTya s

/-- $99 STA ABY (R214). -/
def execStaAby (addr : Word) (s : State) : Host.Outcome State Fault Refusal :=
  perform 5 false (modeAby addr) opSta s

/-- $9A TXS IMP (R222). -/
def execTxs (s : State) : Host.Outcome State Fault Refusal :=
  perform 2 false modeImp opTxs s

/-- $9D STA ABX (R214). -/
def execStaAbx (addr : Word) (s : State) : Host.Outcome State Fault Refusal :=
  perform 5 false (modeAbx addr) opSta s

/-- $A0 LDY IMM (R213). -/
def execLdyImm (imm : Byte) (s : State) : Host.Outcome State Fault Refusal :=
  perform 2 false (modeImm imm) opLdy s

/-- $A1 LDA IZX (R211). -/
def execLdaIzx (z : Byte) (s : State) : Host.Outcome State Fault Refusal :=
  perform 6 false (modeIzx z) opLda s

/-- $A2 LDX IMM (R212). -/
def execLdxImm (imm : Byte) (s : State) : Host.Outcome State Fault Refusal :=
  perform 2 false (modeImm imm) opLdx s

/-- $A4 LDY ZP (R213). -/
def execLdyZp (z : Byte) (s : State) : Host.Outcome State Fault Refusal :=
  perform 3 false (modeZp z) opLdy s

/-- $A5 LDA ZP (R211). -/
def execLdaZp (z : Byte) (s : State) : Host.Outcome State Fault Refusal :=
  perform 3 false (modeZp z) opLda s

/-- $A6 LDX ZP (R212). -/
def execLdxZp (z : Byte) (s : State) : Host.Outcome State Fault Refusal :=
  perform 3 false (modeZp z) opLdx s

/-- $A8 TAY IMP (R218). -/
def execTay (s : State) : Host.Outcome State Fault Refusal :=
  perform 2 false modeImp opTay s

/-- $A9 LDA IMM (R211). -/
def execLdaImm (imm : Byte) (s : State) : Host.Outcome State Fault Refusal :=
  perform 2 false (modeImm imm) opLda s

/-- $AA TAX IMP (R217). -/
def execTax (s : State) : Host.Outcome State Fault Refusal :=
  perform 2 false modeImp opTax s

/-- $AC LDY ABS (R213). -/
def execLdyAbs (addr : Word) (s : State) : Host.Outcome State Fault Refusal :=
  perform 4 false (modeAbs addr) opLdy s

/-- $AD LDA ABS (R211). -/
def execLdaAbs (addr : Word) (s : State) : Host.Outcome State Fault Refusal :=
  perform 4 false (modeAbs addr) opLda s

/-- $AE LDX ABS (R212). -/
def execLdxAbs (addr : Word) (s : State) : Host.Outcome State Fault Refusal :=
  perform 4 false (modeAbs addr) opLdx s

/-- $B1 LDA IZY (R211). -/
def execLdaIzy (z : Byte) (s : State) : Host.Outcome State Fault Refusal :=
  perform 5 true (modeIzy z) opLda s

/-- $B4 LDY ZPX (R213). -/
def execLdyZpx (z : Byte) (s : State) : Host.Outcome State Fault Refusal :=
  perform 4 false (modeZpx z) opLdy s

/-- $B5 LDA ZPX (R211). -/
def execLdaZpx (z : Byte) (s : State) : Host.Outcome State Fault Refusal :=
  perform 4 false (modeZpx z) opLda s

/-- $B6 LDX ZPY (R212). -/
def execLdxZpy (z : Byte) (s : State) : Host.Outcome State Fault Refusal :=
  perform 4 false (modeZpy z) opLdx s

/-- $B9 LDA ABY (R211). -/
def execLdaAby (addr : Word) (s : State) : Host.Outcome State Fault Refusal :=
  perform 4 true (modeAby addr) opLda s

/-- $BA TSX IMP (R221). -/
def execTsx (s : State) : Host.Outcome State Fault Refusal :=
  perform 2 false modeImp opTsx s

/-- $BC LDY ABX (R213). -/
def execLdyAbx (addr : Word) (s : State) : Host.Outcome State Fault Refusal :=
  perform 4 true (modeAbx addr) opLdy s

/-- $BD LDA ABX (R211). -/
def execLdaAbx (addr : Word) (s : State) : Host.Outcome State Fault Refusal :=
  perform 4 true (modeAbx addr) opLda s

/-- $BE LDX ABY (R212). -/
def execLdxAby (addr : Word) (s : State) : Host.Outcome State Fault Refusal :=
  perform 4 true (modeAby addr) opLdx s

end Sys2Proof.Machine
end

