-- ==== Sys2Proof/Machine/Shift.lean ====
section
/-! DEFINITION. Shifts and rotates (44_shift_rotate.md).
The operation of each mnemonic, then the meaning of each opcode: its mode, its cycles and its operation (30_encoding.md R160). -/

namespace Sys2Proof.Machine

/-! ## Operations -/

/-- ASL: one read and one write (R290, R291). -/
def opAsl (o : Operand) (s : State) : State :=
  let (s1, m) := load o s
  let r := shiftLeft m
  flagsNZ r.1 (store o r.1 (s1.setFlag .c r.2))

/-- LSR: one read and one write (R290, R292). -/
def opLsr (o : Operand) (s : State) : State :=
  let (s1, m) := load o s
  let r := shiftRight m
  flagsNZ r.1 (store o r.1 (s1.setFlag .c r.2))

/-- ROL: one read and one write (R290, R293). -/
def opRol (o : Operand) (s : State) : State :=
  let (s1, m) := load o s
  let r := rotateLeft (s1.flag .c) m
  flagsNZ r.1 (store o r.1 (s1.setFlag .c r.2))

/-- ROR: one read and one write (R290, R294). -/
def opRor (o : Operand) (s : State) : State :=
  let (s1, m) := load o s
  let r := rotateRight (s1.flag .c) m
  flagsNZ r.1 (store o r.1 (s1.setFlag .c r.2))

/-! ## Meanings -/

/-- $06 ASL ZP (R291). -/
def execAslZp (z : Byte) (s : State) : Host.Outcome State Fault Refusal :=
  perform 5 false (modeZp z) opAsl s

/-- $0A ASL ACC (R291). -/
def execAslAcc (s : State) : Host.Outcome State Fault Refusal :=
  perform 2 false modeAcc opAsl s

/-- $0E ASL ABS (R291). -/
def execAslAbs (addr : Word) (s : State) : Host.Outcome State Fault Refusal :=
  perform 6 false (modeAbs addr) opAsl s

/-- $16 ASL ZPX (R291). -/
def execAslZpx (z : Byte) (s : State) : Host.Outcome State Fault Refusal :=
  perform 6 false (modeZpx z) opAsl s

/-- $1E ASL ABX (R291). -/
def execAslAbx (addr : Word) (s : State) : Host.Outcome State Fault Refusal :=
  perform 7 false (modeAbx addr) opAsl s

/-- $26 ROL ZP (R293). -/
def execRolZp (z : Byte) (s : State) : Host.Outcome State Fault Refusal :=
  perform 5 false (modeZp z) opRol s

/-- $2A ROL ACC (R293). -/
def execRolAcc (s : State) : Host.Outcome State Fault Refusal :=
  perform 2 false modeAcc opRol s

/-- $2E ROL ABS (R293). -/
def execRolAbs (addr : Word) (s : State) : Host.Outcome State Fault Refusal :=
  perform 6 false (modeAbs addr) opRol s

/-- $36 ROL ZPX (R293). -/
def execRolZpx (z : Byte) (s : State) : Host.Outcome State Fault Refusal :=
  perform 6 false (modeZpx z) opRol s

/-- $3E ROL ABX (R293). -/
def execRolAbx (addr : Word) (s : State) : Host.Outcome State Fault Refusal :=
  perform 7 false (modeAbx addr) opRol s

/-- $46 LSR ZP (R292). -/
def execLsrZp (z : Byte) (s : State) : Host.Outcome State Fault Refusal :=
  perform 5 false (modeZp z) opLsr s

/-- $4A LSR ACC (R292). -/
def execLsrAcc (s : State) : Host.Outcome State Fault Refusal :=
  perform 2 false modeAcc opLsr s

/-- $4E LSR ABS (R292). -/
def execLsrAbs (addr : Word) (s : State) : Host.Outcome State Fault Refusal :=
  perform 6 false (modeAbs addr) opLsr s

/-- $56 LSR ZPX (R292). -/
def execLsrZpx (z : Byte) (s : State) : Host.Outcome State Fault Refusal :=
  perform 6 false (modeZpx z) opLsr s

/-- $5E LSR ABX (R292). -/
def execLsrAbx (addr : Word) (s : State) : Host.Outcome State Fault Refusal :=
  perform 7 false (modeAbx addr) opLsr s

/-- $66 ROR ZP (R294). -/
def execRorZp (z : Byte) (s : State) : Host.Outcome State Fault Refusal :=
  perform 5 false (modeZp z) opRor s

/-- $6A ROR ACC (R294). -/
def execRorAcc (s : State) : Host.Outcome State Fault Refusal :=
  perform 2 false modeAcc opRor s

/-- $6E ROR ABS (R294). -/
def execRorAbs (addr : Word) (s : State) : Host.Outcome State Fault Refusal :=
  perform 6 false (modeAbs addr) opRor s

/-- $76 ROR ZPX (R294). -/
def execRorZpx (z : Byte) (s : State) : Host.Outcome State Fault Refusal :=
  perform 6 false (modeZpx z) opRor s

/-- $7E ROR ABX (R294). -/
def execRorAbx (addr : Word) (s : State) : Host.Outcome State Fault Refusal :=
  perform 7 false (modeAbx addr) opRor s

end Sys2Proof.Machine
end

