-- ==== Sys2Proof/Machine/Stack.lean ====
section
/-! DEFINITION. Stack instructions (42_stack.md).
The operation of each mnemonic, then the meaning of each opcode: its mode, its cycles and its operation (30_encoding.md R160). -/

namespace Sys2Proof.Machine

/-! ## Operations -/

/-- PHA (R241). -/
def opPha (_o : Operand) (s : State) : State :=
  push s.cpu.a s

/-- PHP: the pushed copy has B = 1 and U = 1 (R242). -/
def opPhp (_o : Operand) (s : State) : State :=
  push (pushedP true s.cpu.p) s

/-- PLA (R243). -/
def opPla (_o : Operand) (s : State) : State :=
  let (s1, m) := pull s
  flagsNZ m (s1.setA m)

/-- PLP (R244). -/
def opPlp (_o : Operand) (s : State) : State :=
  let (s1, m) := pull s
  s1.setP (pulledP m)

/-! ## Meanings -/

/-- $08 PHP IMP (R242). -/
def execPhp (s : State) : Host.Outcome State Fault Refusal :=
  perform 3 false modeImp opPhp s

/-- $28 PLP IMP (R244). -/
def execPlp (s : State) : Host.Outcome State Fault Refusal :=
  perform 4 false modeImp opPlp s

/-- $48 PHA IMP (R241). -/
def execPha (s : State) : Host.Outcome State Fault Refusal :=
  perform 3 false modeImp opPha s

/-- $68 PLA IMP (R243). -/
def execPla (s : State) : Host.Outcome State Fault Refusal :=
  perform 4 false modeImp opPla s

end Sys2Proof.Machine
end

