-- ==== Sys2Proof/Machine/Unofficial.lean ====
section
/-! DEFINITION. Unofficial opcodes, the NOP map, unstable and unhandled opcodes (47_unofficial.md).
The operation of each mnemonic, then the meaning of each opcode: its mode, its cycles and its operation (30_encoding.md R160). -/

namespace Sys2Proof.Machine

/-! ## Operations -/

/-- A NOP with an operand: one read, discarded (R361 to R365, R370, R371, D11). -/
def opDiscard (o : Operand) (s : State) : State :=
  (load o s).1

/-- LAX (R341). -/
def opLax (o : Operand) (s : State) : State :=
  let (s1, m) := load o s
  flagsNZ m ((s1.setA m).setX m)

/-- SAX: no flag (R342). -/
def opSax (o : Operand) (s : State) : State :=
  store o (s.cpu.a &&& s.cpu.x) s

/-- DCP: decrement, then compare with A (R343). -/
def opDcp (o : Operand) (s : State) : State :=
  let (s1, m) := load o s
  let r := m - 1
  let s2 := store o r s1
  compare s2.cpu.a r s2

/-- ISC: increment, then subtract (R344). -/
def opIsc (o : Operand) (s : State) : State :=
  let (s1, m) := load o s
  let r := m + 1
  addCore (r ^^^ 0xFF) (store o r s1)

/-- SLO (R345). -/
def opSlo (o : Operand) (s : State) : State :=
  let (s1, m) := load o s
  let r := shiftLeft m
  let s2 := store o r.1 (s1.setFlag .c r.2)
  let a := s2.cpu.a ||| r.1
  flagsNZ a (s2.setA a)

/-- RLA (R346). -/
def opRla (o : Operand) (s : State) : State :=
  let (s1, m) := load o s
  let r := rotateLeft (s1.flag .c) m
  let s2 := store o r.1 (s1.setFlag .c r.2)
  let a := s2.cpu.a &&& r.1
  flagsNZ a (s2.setA a)

/-- SRE (R347). -/
def opSre (o : Operand) (s : State) : State :=
  let (s1, m) := load o s
  let r := shiftRight m
  let s2 := store o r.1 (s1.setFlag .c r.2)
  let a := s2.cpu.a ^^^ r.1
  flagsNZ a (s2.setA a)

/-- RRA: the carry of the rotate enters the add (R348). -/
def opRra (o : Operand) (s : State) : State :=
  let (s1, m) := load o s
  let r := rotateRight (s1.flag .c) m
  addCore r.1 (store o r.1 (s1.setFlag .c r.2))

/-- ANC: N is copied into C (R349). -/
def opAnc (o : Operand) (s : State) : State :=
  let (s1, m) := load o s
  let r := s1.cpu.a &&& m
  (flagsNZ r (s1.setA r)).setFlag .c (r.getLsbD 7)

/-- ALR (R350). -/
def opAlr (o : Operand) (s : State) : State :=
  let (s1, m) := load o s
  let t := shiftRight (s1.cpu.a &&& m)
  flagsNZ t.1 ((s1.setFlag .c t.2).setA t.1)

/-- ARR: C is bit 6 and V is bit 6 xor bit 5 of the result (R351). -/
def opArr (o : Operand) (s : State) : State :=
  let (s1, m) := load o s
  let r := (rotateRight (s1.flag .c) (s1.cpu.a &&& m)).1
  let s2 := flagsNZ r (s1.setA r)
  (s2.setFlag .c (r.getLsbD 6)).setFlag .v (r.getLsbD 6 ^^ r.getLsbD 5)

/-! ## Meanings -/

/-- $02 JAM IMP (R372). -/
def execJam02 (s : State) : Host.Outcome State Fault Refusal :=
  perform 2 false modeImp opNothing s

/-- $03 SLO IZX (R345). -/
def execSloIzx (z : Byte) (s : State) : Host.Outcome State Fault Refusal :=
  perform 8 false (modeIzx z) opSlo s

/-- $04 NOP ZP (R362). -/
def execNopZp04 (z : Byte) (s : State) : Host.Outcome State Fault Refusal :=
  perform 3 false (modeZp z) opDiscard s

/-- $07 SLO ZP (R345). -/
def execSloZp (z : Byte) (s : State) : Host.Outcome State Fault Refusal :=
  perform 5 false (modeZp z) opSlo s

/-- $0B ANC IMM (R349). -/
def execAncImm0B (imm : Byte) (s : State) : Host.Outcome State Fault Refusal :=
  perform 2 false (modeImm imm) opAnc s

/-- $0C NOP ABS (R364). -/
def execNopAbs (addr : Word) (s : State) : Host.Outcome State Fault Refusal :=
  perform 4 false (modeAbs addr) opDiscard s

/-- $0F SLO ABS (R345). -/
def execSloAbs (addr : Word) (s : State) : Host.Outcome State Fault Refusal :=
  perform 6 false (modeAbs addr) opSlo s

/-- $12 JAM IMP (R372). -/
def execJam12 (s : State) : Host.Outcome State Fault Refusal :=
  perform 2 false modeImp opNothing s

/-- $13 SLO IZY (R345). -/
def execSloIzy (z : Byte) (s : State) : Host.Outcome State Fault Refusal :=
  perform 8 false (modeIzy z) opSlo s

/-- $14 NOP ZPX (R363). -/
def execNopZpx14 (z : Byte) (s : State) : Host.Outcome State Fault Refusal :=
  perform 4 false (modeZpx z) opDiscard s

/-- $17 SLO ZPX (R345). -/
def execSloZpx (z : Byte) (s : State) : Host.Outcome State Fault Refusal :=
  perform 6 false (modeZpx z) opSlo s

/-- $1A NOP IMP (R360). -/
def execNopImp1A (s : State) : Host.Outcome State Fault Refusal :=
  perform 2 false modeImp opNothing s

/-- $1B SLO ABY (R345). -/
def execSloAby (addr : Word) (s : State) : Host.Outcome State Fault Refusal :=
  perform 7 false (modeAby addr) opSlo s

/-- $1C NOP ABX (R365). -/
def execNopAbx1C (addr : Word) (s : State) : Host.Outcome State Fault Refusal :=
  perform 4 true (modeAbx addr) opDiscard s

/-- $1F SLO ABX (R345). -/
def execSloAbx (addr : Word) (s : State) : Host.Outcome State Fault Refusal :=
  perform 7 false (modeAbx addr) opSlo s

/-- $22 JAM IMP (R372). -/
def execJam22 (s : State) : Host.Outcome State Fault Refusal :=
  perform 2 false modeImp opNothing s

/-- $23 RLA IZX (R346). -/
def execRlaIzx (z : Byte) (s : State) : Host.Outcome State Fault Refusal :=
  perform 8 false (modeIzx z) opRla s

/-- $27 RLA ZP (R346). -/
def execRlaZp (z : Byte) (s : State) : Host.Outcome State Fault Refusal :=
  perform 5 false (modeZp z) opRla s

/-- $2B ANC IMM (R349). -/
def execAncImm2B (imm : Byte) (s : State) : Host.Outcome State Fault Refusal :=
  perform 2 false (modeImm imm) opAnc s

/-- $2F RLA ABS (R346). -/
def execRlaAbs (addr : Word) (s : State) : Host.Outcome State Fault Refusal :=
  perform 6 false (modeAbs addr) opRla s

/-- $32 JAM IMP (R372). -/
def execJam32 (s : State) : Host.Outcome State Fault Refusal :=
  perform 2 false modeImp opNothing s

/-- $33 RLA IZY (R346). -/
def execRlaIzy (z : Byte) (s : State) : Host.Outcome State Fault Refusal :=
  perform 8 false (modeIzy z) opRla s

/-- $34 NOP ZPX (R363). -/
def execNopZpx34 (z : Byte) (s : State) : Host.Outcome State Fault Refusal :=
  perform 4 false (modeZpx z) opDiscard s

/-- $37 RLA ZPX (R346). -/
def execRlaZpx (z : Byte) (s : State) : Host.Outcome State Fault Refusal :=
  perform 6 false (modeZpx z) opRla s

/-- $3A NOP IMP (R360). -/
def execNopImp3A (s : State) : Host.Outcome State Fault Refusal :=
  perform 2 false modeImp opNothing s

/-- $3B RLA ABY (R346). -/
def execRlaAby (addr : Word) (s : State) : Host.Outcome State Fault Refusal :=
  perform 7 false (modeAby addr) opRla s

/-- $3C NOP ABX (R365). -/
def execNopAbx3C (addr : Word) (s : State) : Host.Outcome State Fault Refusal :=
  perform 4 true (modeAbx addr) opDiscard s

/-- $3F RLA ABX (R346). -/
def execRlaAbx (addr : Word) (s : State) : Host.Outcome State Fault Refusal :=
  perform 7 false (modeAbx addr) opRla s

/-- $42 JAM IMP (R372). -/
def execJam42 (s : State) : Host.Outcome State Fault Refusal :=
  perform 2 false modeImp opNothing s

/-- $43 SRE IZX (R347). -/
def execSreIzx (z : Byte) (s : State) : Host.Outcome State Fault Refusal :=
  perform 8 false (modeIzx z) opSre s

/-- $44 NOP ZP (R362). -/
def execNopZp44 (z : Byte) (s : State) : Host.Outcome State Fault Refusal :=
  perform 3 false (modeZp z) opDiscard s

/-- $47 SRE ZP (R347). -/
def execSreZp (z : Byte) (s : State) : Host.Outcome State Fault Refusal :=
  perform 5 false (modeZp z) opSre s

/-- $4B ALR IMM (R350). -/
def execAlr (imm : Byte) (s : State) : Host.Outcome State Fault Refusal :=
  perform 2 false (modeImm imm) opAlr s

/-- $4F SRE ABS (R347). -/
def execSreAbs (addr : Word) (s : State) : Host.Outcome State Fault Refusal :=
  perform 6 false (modeAbs addr) opSre s

/-- $52 JAM IMP (R372). -/
def execJam52 (s : State) : Host.Outcome State Fault Refusal :=
  perform 2 false modeImp opNothing s

/-- $53 SRE IZY (R347). -/
def execSreIzy (z : Byte) (s : State) : Host.Outcome State Fault Refusal :=
  perform 8 false (modeIzy z) opSre s

/-- $54 NOP ZPX (R363). -/
def execNopZpx54 (z : Byte) (s : State) : Host.Outcome State Fault Refusal :=
  perform 4 false (modeZpx z) opDiscard s

/-- $57 SRE ZPX (R347). -/
def execSreZpx (z : Byte) (s : State) : Host.Outcome State Fault Refusal :=
  perform 6 false (modeZpx z) opSre s

/-- $5A NOP IMP (R360). -/
def execNopImp5A (s : State) : Host.Outcome State Fault Refusal :=
  perform 2 false modeImp opNothing s

/-- $5B SRE ABY (R347). -/
def execSreAby (addr : Word) (s : State) : Host.Outcome State Fault Refusal :=
  perform 7 false (modeAby addr) opSre s

/-- $5C NOP ABX (R365). -/
def execNopAbx5C (addr : Word) (s : State) : Host.Outcome State Fault Refusal :=
  perform 4 true (modeAbx addr) opDiscard s

/-- $5F SRE ABX (R347). -/
def execSreAbx (addr : Word) (s : State) : Host.Outcome State Fault Refusal :=
  perform 7 false (modeAbx addr) opSre s

/-- $62 JAM IMP (R372). -/
def execJam62 (s : State) : Host.Outcome State Fault Refusal :=
  perform 2 false modeImp opNothing s

/-- $63 RRA IZX (R348). -/
def execRraIzx (z : Byte) (s : State) : Host.Outcome State Fault Refusal :=
  perform 8 false (modeIzx z) opRra s

/-- $64 NOP ZP (R362). -/
def execNopZp64 (z : Byte) (s : State) : Host.Outcome State Fault Refusal :=
  perform 3 false (modeZp z) opDiscard s

/-- $67 RRA ZP (R348). -/
def execRraZp (z : Byte) (s : State) : Host.Outcome State Fault Refusal :=
  perform 5 false (modeZp z) opRra s

/-- $6B ARR IMM (R351). -/
def execArr (imm : Byte) (s : State) : Host.Outcome State Fault Refusal :=
  perform 2 false (modeImm imm) opArr s

/-- $6F RRA ABS (R348). -/
def execRraAbs (addr : Word) (s : State) : Host.Outcome State Fault Refusal :=
  perform 6 false (modeAbs addr) opRra s

/-- $72 JAM IMP (R372). -/
def execJam72 (s : State) : Host.Outcome State Fault Refusal :=
  perform 2 false modeImp opNothing s

/-- $73 RRA IZY (R348). -/
def execRraIzy (z : Byte) (s : State) : Host.Outcome State Fault Refusal :=
  perform 8 false (modeIzy z) opRra s

/-- $74 NOP ZPX (R363). -/
def execNopZpx74 (z : Byte) (s : State) : Host.Outcome State Fault Refusal :=
  perform 4 false (modeZpx z) opDiscard s

/-- $77 RRA ZPX (R348). -/
def execRraZpx (z : Byte) (s : State) : Host.Outcome State Fault Refusal :=
  perform 6 false (modeZpx z) opRra s

/-- $7A NOP IMP (R360). -/
def execNopImp7A (s : State) : Host.Outcome State Fault Refusal :=
  perform 2 false modeImp opNothing s

/-- $7B RRA ABY (R348). -/
def execRraAby (addr : Word) (s : State) : Host.Outcome State Fault Refusal :=
  perform 7 false (modeAby addr) opRra s

/-- $7C NOP ABX (R365). -/
def execNopAbx7C (addr : Word) (s : State) : Host.Outcome State Fault Refusal :=
  perform 4 true (modeAbx addr) opDiscard s

/-- $7F RRA ABX (R348). -/
def execRraAbx (addr : Word) (s : State) : Host.Outcome State Fault Refusal :=
  perform 7 false (modeAbx addr) opRra s

/-- $80 NOP IMM (R361). -/
def execNopImm80 (imm : Byte) (s : State) : Host.Outcome State Fault Refusal :=
  perform 2 false (modeImm imm) opDiscard s

/-- $82 NOP IMM (R361). -/
def execNopImm82 (imm : Byte) (s : State) : Host.Outcome State Fault Refusal :=
  perform 2 false (modeImm imm) opDiscard s

/-- $83 SAX IZX (R342). -/
def execSaxIzx (z : Byte) (s : State) : Host.Outcome State Fault Refusal :=
  perform 6 false (modeIzx z) opSax s

/-- $87 SAX ZP (R342). -/
def execSaxZp (z : Byte) (s : State) : Host.Outcome State Fault Refusal :=
  perform 3 false (modeZp z) opSax s

/-- $89 NOP IMM (R361). -/
def execNopImm89 (imm : Byte) (s : State) : Host.Outcome State Fault Refusal :=
  perform 2 false (modeImm imm) opDiscard s

/-- $8B XAA IMM (R370). -/
def execXaa (imm : Byte) (s : State) : Host.Outcome State Fault Refusal :=
  perform 2 false (modeImm imm) opDiscard s

/-- $8F SAX ABS (R342). -/
def execSaxAbs (addr : Word) (s : State) : Host.Outcome State Fault Refusal :=
  perform 4 false (modeAbs addr) opSax s

/-- $92 JAM IMP (R372). -/
def execJam92 (s : State) : Host.Outcome State Fault Refusal :=
  perform 2 false modeImp opNothing s

/-- $93 SHA IMP (R372). -/
def execSha93 (s : State) : Host.Outcome State Fault Refusal :=
  perform 2 false modeImp opNothing s

/-- $97 SAX ZPY (R342). -/
def execSaxZpy (z : Byte) (s : State) : Host.Outcome State Fault Refusal :=
  perform 4 false (modeZpy z) opSax s

/-- $9B TAS IMP (R372). -/
def execTas (s : State) : Host.Outcome State Fault Refusal :=
  perform 2 false modeImp opNothing s

/-- $9C SHY IMP (R372). -/
def execShy (s : State) : Host.Outcome State Fault Refusal :=
  perform 2 false modeImp opNothing s

/-- $9E SHX IMP (R372). -/
def execShx (s : State) : Host.Outcome State Fault Refusal :=
  perform 2 false modeImp opNothing s

/-- $9F SHA IMP (R372). -/
def execSha9F (s : State) : Host.Outcome State Fault Refusal :=
  perform 2 false modeImp opNothing s

/-- $A3 LAX IZX (R341). -/
def execLaxIzx (z : Byte) (s : State) : Host.Outcome State Fault Refusal :=
  perform 6 false (modeIzx z) opLax s

/-- $A7 LAX ZP (R341). -/
def execLaxZp (z : Byte) (s : State) : Host.Outcome State Fault Refusal :=
  perform 3 false (modeZp z) opLax s

/-- $AB LXA IMM (R371). -/
def execLxa (imm : Byte) (s : State) : Host.Outcome State Fault Refusal :=
  perform 2 false (modeImm imm) opDiscard s

/-- $AF LAX ABS (R341). -/
def execLaxAbs (addr : Word) (s : State) : Host.Outcome State Fault Refusal :=
  perform 4 false (modeAbs addr) opLax s

/-- $B2 JAM IMP (R372). -/
def execJamB2 (s : State) : Host.Outcome State Fault Refusal :=
  perform 2 false modeImp opNothing s

/-- $B3 LAX IZY (R341). -/
def execLaxIzy (z : Byte) (s : State) : Host.Outcome State Fault Refusal :=
  perform 5 true (modeIzy z) opLax s

/-- $B7 LAX ZPY (R341). -/
def execLaxZpy (z : Byte) (s : State) : Host.Outcome State Fault Refusal :=
  perform 4 false (modeZpy z) opLax s

/-- $BB LAS IMP (R372). -/
def execLas (s : State) : Host.Outcome State Fault Refusal :=
  perform 2 false modeImp opNothing s

/-- $BF LAX ABY (R341). -/
def execLaxAby (addr : Word) (s : State) : Host.Outcome State Fault Refusal :=
  perform 4 true (modeAby addr) opLax s

/-- $C2 NOP IMM (R361). -/
def execNopImmC2 (imm : Byte) (s : State) : Host.Outcome State Fault Refusal :=
  perform 2 false (modeImm imm) opDiscard s

/-- $C3 DCP IZX (R343). -/
def execDcpIzx (z : Byte) (s : State) : Host.Outcome State Fault Refusal :=
  perform 8 false (modeIzx z) opDcp s

/-- $C7 DCP ZP (R343). -/
def execDcpZp (z : Byte) (s : State) : Host.Outcome State Fault Refusal :=
  perform 5 false (modeZp z) opDcp s

/-- $CB SBX IMP (R372). -/
def execSbx (s : State) : Host.Outcome State Fault Refusal :=
  perform 2 false modeImp opNothing s

/-- $CF DCP ABS (R343). -/
def execDcpAbs (addr : Word) (s : State) : Host.Outcome State Fault Refusal :=
  perform 6 false (modeAbs addr) opDcp s

/-- $D2 JAM IMP (R372). -/
def execJamD2 (s : State) : Host.Outcome State Fault Refusal :=
  perform 2 false modeImp opNothing s

/-- $D3 DCP IZY (R343). -/
def execDcpIzy (z : Byte) (s : State) : Host.Outcome State Fault Refusal :=
  perform 8 false (modeIzy z) opDcp s

/-- $D4 NOP ZPX (R363). -/
def execNopZpxD4 (z : Byte) (s : State) : Host.Outcome State Fault Refusal :=
  perform 4 false (modeZpx z) opDiscard s

/-- $D7 DCP ZPX (R343). -/
def execDcpZpx (z : Byte) (s : State) : Host.Outcome State Fault Refusal :=
  perform 6 false (modeZpx z) opDcp s

/-- $DA NOP IMP (R360). -/
def execNopImpDA (s : State) : Host.Outcome State Fault Refusal :=
  perform 2 false modeImp opNothing s

/-- $DB DCP ABY (R343). -/
def execDcpAby (addr : Word) (s : State) : Host.Outcome State Fault Refusal :=
  perform 7 false (modeAby addr) opDcp s

/-- $DC NOP ABX (R365). -/
def execNopAbxDC (addr : Word) (s : State) : Host.Outcome State Fault Refusal :=
  perform 4 true (modeAbx addr) opDiscard s

/-- $DF DCP ABX (R343). -/
def execDcpAbx (addr : Word) (s : State) : Host.Outcome State Fault Refusal :=
  perform 7 false (modeAbx addr) opDcp s

/-- $E2 NOP IMM (R361). -/
def execNopImmE2 (imm : Byte) (s : State) : Host.Outcome State Fault Refusal :=
  perform 2 false (modeImm imm) opDiscard s

/-- $E3 ISC IZX (R344). -/
def execIscIzx (z : Byte) (s : State) : Host.Outcome State Fault Refusal :=
  perform 8 false (modeIzx z) opIsc s

/-- $E7 ISC ZP (R344). -/
def execIscZp (z : Byte) (s : State) : Host.Outcome State Fault Refusal :=
  perform 5 false (modeZp z) opIsc s

/-- $EB USBC IMP (R372). -/
def execUsbc (s : State) : Host.Outcome State Fault Refusal :=
  perform 2 false modeImp opNothing s

/-- $EF ISC ABS (R344). -/
def execIscAbs (addr : Word) (s : State) : Host.Outcome State Fault Refusal :=
  perform 6 false (modeAbs addr) opIsc s

/-- $F2 JAM IMP (R372). -/
def execJamF2 (s : State) : Host.Outcome State Fault Refusal :=
  perform 2 false modeImp opNothing s

/-- $F3 ISC IZY (R344). -/
def execIscIzy (z : Byte) (s : State) : Host.Outcome State Fault Refusal :=
  perform 8 false (modeIzy z) opIsc s

/-- $F4 NOP ZPX (R363). -/
def execNopZpxF4 (z : Byte) (s : State) : Host.Outcome State Fault Refusal :=
  perform 4 false (modeZpx z) opDiscard s

/-- $F7 ISC ZPX (R344). -/
def execIscZpx (z : Byte) (s : State) : Host.Outcome State Fault Refusal :=
  perform 6 false (modeZpx z) opIsc s

/-- $FA NOP IMP (R360). -/
def execNopImpFA (s : State) : Host.Outcome State Fault Refusal :=
  perform 2 false modeImp opNothing s

/-- $FB ISC ABY (R344). -/
def execIscAby (addr : Word) (s : State) : Host.Outcome State Fault Refusal :=
  perform 7 false (modeAby addr) opIsc s

/-- $FC NOP ABX (R365). -/
def execNopAbxFC (addr : Word) (s : State) : Host.Outcome State Fault Refusal :=
  perform 4 true (modeAbx addr) opDiscard s

/-- $FF ISC ABX (R344). -/
def execIscAbx (addr : Word) (s : State) : Host.Outcome State Fault Refusal :=
  perform 7 false (modeAbx addr) opIsc s

end Sys2Proof.Machine
end

