-- ==== Sys2Proof/Machine/PpuDot.lean ====
section
/-! DEFINITION. The PPU dot state machine: position, background and sprite pipelines, pixels, vblank and NMI
(62_ppu.md R500 to R502 and R540 to R572). -/

namespace Sys2Proof.Machine

/-- Rendering enabled: PPUMASK bit 3 or bit 4 (00_scope.md R17). -/
def Ppu.rendering (p : Ppu) : Bool := p.mask.getLsbD 3 || p.mask.getLsbD 4

/-! ## Scroll registers (R51, R542 to R545) -/

/-- `coarseX(v)`. -/
def coarseX (v : BitVec 15) : BitVec 5 := v.extractLsb' 0 5

/-- `coarseY(v)`. -/
def coarseY (v : BitVec 15) : BitVec 5 := v.extractLsb' 5 5

/-- `fineY(v)`. -/
def fineY (v : BitVec 15) : BitVec 3 := v.extractLsb' 12 3

/-- `IncX()` (R542). -/
def incX (v : BitVec 15) : BitVec 15 :=
  if coarseX v = 31 then (v &&& ~~~0x001F#15) ^^^ 0x0400#15 else v + 1

/-- `IncY()` (R543). -/
def incY (v : BitVec 15) : BitVec 15 :=
  if (fineY v).toNat < 7 then v + 0x1000#15
  else
    let v0 := v &&& ~~~0x7000#15
    let y := coarseY v
    let v1 := if y = 29 then v0 ^^^ 0x0800#15 else v0
    let y1 : BitVec 5 := if y = 29 ∨ y = 31 then 0 else y + 1
    (v1 &&& ~~~0x03E0#15) ||| (y1.setWidth 15 <<< 5)

/-- `CopyX()` (R544). -/
def copyX (v t : BitVec 15) : BitVec 15 := (v &&& ~~~0x041F#15) ||| (t &&& 0x041F#15)

/-- `CopyY()` (R545). -/
def copyY (v t : BitVec 15) : BitVec 15 := (v &&& ~~~0x7BE0#15) ||| (t &&& 0x7BE0#15)

/-! ## Background pipeline (R541, R546, R547) -/

/-- `LoadBg()` (R546). -/
def Ppu.loadBg (p : Ppu) : Ppu :=
  { p with
    shPatLo := (p.shPatLo &&& 0xFF00#16) ||| p.bgLo.setWidth 16
    shPatHi := (p.shPatHi &&& 0xFF00#16) ||| p.bgHi.setWidth 16
    shAtLo := (p.shAtLo &&& 0xFF00#16) ||| (if p.bgAt.getLsbD 0 then 0x00FF#16 else 0)
    shAtHi := (p.shAtHi &&& 0xFF00#16) ||| (if p.bgAt.getLsbD 1 then 0x00FF#16 else 0) }

/-- `ShiftBg()` (R547). -/
def Ppu.shiftBg (p : Ppu) : Ppu :=
  { p with
    shPatLo := p.shPatLo <<< 1
    shPatHi := p.shPatHi <<< 1
    shAtLo := p.shAtLo <<< 1
    shAtHi := p.shAtHi <<< 1 }

/-- The nametable address of the current tile (R541). -/
def Ppu.tileAddr (p : Ppu) : Word := 0x2000#16 ||| (p.v.setWidth 16 &&& 0x0FFF)

/-- The attribute address of the current tile (R541). -/
def Ppu.attrAddr (p : Ppu) : Word :=
  let v : Word := p.v.setWidth 16
  0x23C0#16 ||| (v &&& 0x0C00) ||| ((v >>> 4) &&& 0x38) ||| ((v >>> 2) &&& 0x07)

/-- The low-plane pattern address of the fetched tile row (R541). -/
def Ppu.bgPatternAddr (p : Ppu) : Word :=
  (if p.ctrl.getLsbD 4 then 0x1000#16 else 0) + p.bgNt.setWidth 16 * 16 + (fineY p.v).setWidth 16

/-- `AttrBits(b)`: the quadrant that `v` selects (R541). -/
def attrBits (v : BitVec 15) (b : Byte) : BitVec 2 :=
  let b1 := if (coarseY v).getLsbD 1 then b >>> 4 else b
  let b2 := if (coarseX v).getLsbD 1 then b1 >>> 2 else b1
  b2.extractLsb' 0 2

/-- The nametable fetch into the tile latch (R541). -/
def fetchTile (s : State) : State :=
  let (s1, b) := ppuRead s.ppu.tileAddr s
  s1.mapPpu fun p => { p with bgNt := b }

/-- `BgFetch(k)` (R541). -/
def bgFetch (k : Nat) (s : State) : State :=
  match k with
  | 0 => fetchTile (s.mapPpu Ppu.loadBg)
  | 2 =>
    let (s1, b) := ppuRead s.ppu.attrAddr s
    s1.mapPpu fun p => { p with bgAt := attrBits p.v b }
  | 4 =>
    let (s1, b) := ppuRead s.ppu.bgPatternAddr s
    s1.mapPpu fun p => { p with bgLo := b }
  | 6 =>
    let (s1, b) := ppuRead (s.ppu.bgPatternAddr + 8) s
    s1.mapPpu fun p => { p with bgHi := b }
  | 7 => s.mapPpu fun p => { p with v := incX p.v }
  | _ => s

/-! ## Sprites (R550 to R552) -/

/-- The sprite height of PPUCTRL bit 5 (R46). -/
def Ppu.spriteHeight (p : Ppu) : Nat := if p.ctrl.getLsbD 5 then 16 else 8

/-- The four bytes of a sprite in primary OAM (R49). -/
def Ppu.oamSprite (p : Ppu) (n : Nat) : Sprite :=
  { y := p.oam.read (4 * n), tile := p.oam.read (4 * n + 1), attr := p.oam.read (4 * n + 2),
    x := p.oam.read (4 * n + 3) }

/-- The slot with a number, empty when there is none. -/
def Ppu.slot (p : Ppu) (i : Nat) : SpriteSlot := p.slots[i]?.getD SpriteSlot.empty

/-- A slot's sprite replaced. -/
def Ppu.setSlotSprite (p : Ppu) (i : Nat) (sp : Sprite) : Ppu :=
  { p with slots := p.slots.setIfInBounds i { p.slot i with sprite := sp } }

/-- A slot's pattern planes replaced. -/
def Ppu.setSlotPlanes (p : Ppu) (i : Nat) (lo hi : Byte) : Ppu :=
  { p with slots := p.slots.setIfInBounds i { p.slot i with lo := lo, hi := hi } }

/-- The scan of `EvaluateSprites(L)` over the listed sprite numbers; it stops at the ninth match (R550). -/
def Ppu.scanSprites (h : Nat) (line : Int) : List Nat → Ppu → Ppu
  | [], p => p
  | n :: rest, p =>
    let diff := line - ((p.oam.read (4 * n)).toNat : Int)
    if 0 ≤ diff ∧ diff < (h : Int) then
      if p.sprCount < 8 then
        let p1 := p.setSlotSprite p.sprCount (p.oamSprite n)
        Ppu.scanSprites h line rest
          { p1 with spr0InLine := p.spr0InLine || decide (n = 0), sprCount := p.sprCount + 1 }
      else { p with spriteOverflow := true }
    else Ppu.scanSprites h line rest p

/-- The sprite list emptied (R540, R550). -/
def Ppu.clearSprites (p : Ppu) : Ppu := { p with sprCount := 0, spr0InLine := false }

/-- `EvaluateSprites(L)` (R550). -/
def Ppu.evaluateSprites (line : Int) (p : Ppu) : Ppu :=
  Ppu.scanSprites p.spriteHeight line (List.range 64) p.clearSprites

/-- The low-plane pattern address of a sprite row (R551, R552). The row is an integer; the address is reduced
to the width of the PPU address space by the read (R10, R512). -/
def spritePatternAddr (ctrl : Byte) (h : Nat) (tile : Byte) (row : Int) : Word :=
  if h = 8 then
    BitVec.ofInt 16 ((if ctrl.getLsbD 3 then 0x1000 else 0) + (tile.toNat : Int) * 16 + row)
  else
    BitVec.ofInt 16 (((tile &&& 1).toNat : Int) * 0x1000 + ((tile &&& 0xFE).toNat : Int) * 16
      + (if 8 ≤ row then 16 else 0) + row % 8)

/-- The fetch of one slot in `FetchSprites(L)` (R551). -/
def fetchSlot (line : Int) (i : Nat) (s : State) : State :=
  let h := s.ppu.spriteHeight
  let used := decide (i < s.ppu.sprCount)
  let sp := (s.ppu.slot i).sprite
  let tile : Byte := if used then sp.tile else 0xFF
  let attr : Byte := if used then sp.attr else 0
  let row0 : Int := if used then line - (sp.y.toNat : Int) else 0
  let row : Int := if attr.getLsbD 7 then (h : Int) - 1 - row0 else row0
  let addr := spritePatternAddr s.ppu.ctrl h tile row
  let (s1, lo) := ppuRead addr s
  let (s2, hi) := ppuRead (addr + 8) s1
  let lo1 := if attr.getLsbD 6 then reverse8 lo else lo
  let hi1 := if attr.getLsbD 6 then reverse8 hi else hi
  s2.mapPpu fun p => p.setSlotPlanes i (if used then lo1 else 0) (if used then hi1 else 0)

/-- `FetchSprites(L)`: all eight slots in order (R551). -/
def fetchSprites (line : Int) (s : State) : State :=
  (List.range 8).foldl (fun st i => fetchSlot line i st) s

/-! ## Pixels (R560 to R565) -/

/-- What the sprite layer shows at a pixel. -/
structure SpriteDot where
  pixel : BitVec 2
  palette : BitVec 3
  behind : Bool
  isZero : Bool
  deriving DecidableEq, Repr

/-- A transparent sprite pixel. -/
def SpriteDot.clear : SpriteDot := { pixel := 0, palette := 0, behind := false, isZero := false }

/-- A 2-bit value from its high and low bit. -/
def twoBits (hi lo : Bool) : BitVec 2 := (boolBit 2 hi <<< 1) ||| boolBit 2 lo

/-- The scan of `SpritePixel(x)` over the listed slots, in priority order (R561). -/
def Ppu.scanSlots (x : Nat) (p : Ppu) : List Nat → SpriteDot
  | [] => SpriteDot.clear
  | i :: rest =>
    let slot := p.slot i
    let sx := slot.sprite.x.toNat
    if sx ≤ x ∧ x ≤ sx + 7 then
      let b := 7 - (x - sx)
      let px := twoBits (slot.hi.getLsbD b) (slot.lo.getLsbD b)
      if px = 0 then Ppu.scanSlots x p rest
      else
        { pixel := px
          palette := 4 + (slot.sprite.attr.extractLsb' 0 2).setWidth 3
          behind := slot.sprite.attr.getLsbD 5
          isZero := decide (i = 0) && p.spr0InLine }
    else Ppu.scanSlots x p rest

/-- `SpritePixel(x)` (R561). -/
def Ppu.spritePixel (x : Nat) (p : Ppu) : SpriteDot := Ppu.scanSlots x p (List.range p.sprCount)

/-- The sprite layer at x, transparent where PPUMASK hides it (R560). -/
def Ppu.spriteDot (x : Nat) (p : Ppu) : SpriteDot :=
  if p.mask.getLsbD 4 && (p.mask.getLsbD 2 || decide (8 ≤ x)) then p.spritePixel x else SpriteDot.clear

/-- The background layer is shown at x (R560). -/
def Ppu.bgShown (x : Nat) (p : Ppu) : Bool :=
  p.mask.getLsbD 3 && (p.mask.getLsbD 1 || decide (8 ≤ x))

/-- The background pixel at x, from the shifter bit that fine X selects (R560). -/
def Ppu.bgPixel (x : Nat) (p : Ppu) : BitVec 2 :=
  let b := 15 - p.x.toNat
  if p.bgShown x then twoBits (p.shPatHi.getLsbD b) (p.shPatLo.getLsbD b) else 0

/-- The background palette at x (R560). -/
def Ppu.bgPalette (x : Nat) (p : Ppu) : BitVec 2 :=
  let b := 15 - p.x.toNat
  if p.bgShown x then twoBits (p.shAtHi.getLsbD b) (p.shAtLo.getLsbD b) else 0

/-- The pixel value and palette after composing the two layers (R560, R562). -/
def composePixel (bp : BitVec 2) (bpal : BitVec 2) (sp : SpriteDot) : BitVec 2 × BitVec 3 :=
  if bp = 0 ∧ sp.pixel = 0 then (0, 0)
  else if bp = 0 then (sp.pixel, sp.palette)
  else if sp.pixel = 0 then (bp, bpal.setWidth 3)
  else if sp.behind then (bp, bpal.setWidth 3)
  else (sp.pixel, sp.palette)

/-- The sprite-zero hit condition at x (R560, R563). -/
def zeroHit (x : Nat) (bp : BitVec 2) (sp : SpriteDot) : Bool :=
  decide (bp ≠ 0) && (decide (sp.pixel ≠ 0) && (sp.isZero && decide (x ≠ 255)))

/-- The colour index of a composed pixel, after grayscale (R560, R564). -/
def Ppu.colourOf (p : Ppu) (px : BitVec 2 × BitVec 3) : BitVec 6 :=
  let addr : Word := 0x3F00#16 + 4 * px.2.setWidth 16 + px.1.setWidth 16
  let c : BitVec 6 := (p.paletteAt addr).extractLsb' 0 6
  if p.mask.getLsbD 0 then c &&& 0x30 else c

/-- `RenderPixel(x, L)` (R560). -/
def Ppu.renderPixel (x : Nat) (line : Nat) (p : Ppu) : Ppu :=
  let bp := p.bgPixel x
  let sp := p.spriteDot x
  let px := composePixel bp (p.bgPalette x) sp
  { p with
    sprite0Hit := p.sprite0Hit || zeroHit x bp sp
    frame := cellWrite Pixel.blank p.frame (256 * line + x)
      { colour := p.colourOf px, emphasis := p.mask.extractLsb' 5 3 } }

/-! ## The dot (R502, R540, R570, R571) -/

/-- `Advance(d)` (R502). -/
def Ppu.advance (d : Nat) (rendering : Bool) (p : Ppu) : Ppu :=
  let dot1 :=
    if p.scanline = -1 ∧ d = 338 ∧ p.oddFrame = true ∧ rendering = true then 340 else p.dot + 1
  if 340 < dot1 then
    if 260 < p.scanline + 1 then
      { p with dot := 0, scanline := -1, frameComplete := true, oddFrame := !p.oddFrame }
    else { p with dot := 0, scanline := p.scanline + 1 }
  else { p with dot := dot1 }

/-- The pre-render clear of the status flags (R571). -/
def Ppu.clearFlags (p : Ppu) : Ppu :=
  { p with vblank := false, sprite0Hit := false, spriteOverflow := false }

/-- The start of vblank (R570). -/
def Ppu.startVblank (p : Ppu) : Ppu :=
  { p with vblank := true, nmiOut := p.nmiOut || p.ctrl.getLsbD 7 }

/-- The pipeline work of a dot of a rendering scanline, in the order of R540. -/
def pipelineDot (sl : Int) (d : Nat) (s0 : State) : State :=
  let s1 := applyWhen (decide ((2 ≤ d ∧ d ≤ 257) ∨ (322 ≤ d ∧ d ≤ 337))) (State.mapPpu Ppu.shiftBg) s0
  let s2 := applyWhen (decide ((1 ≤ d ∧ d ≤ 256) ∨ (321 ≤ d ∧ d ≤ 336))) (bgFetch ((d - 1) % 8)) s1
  let s3 := applyWhen (decide (d = 256)) (State.mapPpu fun p => { p with v := incY p.v }) s2
  let s4 := applyWhen (decide (d = 257))
    (State.mapPpu fun p => { p.loadBg with v := copyX p.v p.t }) s3
  let s5 := applyWhen (decide (d = 257))
    (State.mapPpu (if 0 ≤ sl then Ppu.evaluateSprites sl else Ppu.clearSprites)) s4
  let s6 := applyWhen (decide (d = 320)) (fetchSprites sl) s5
  let s7 := applyWhen (decide (sl = -1 ∧ 280 ≤ d ∧ d ≤ 304))
    (State.mapPpu fun p => { p with v := copyY p.v p.t }) s6
  applyWhen (decide (d = 338 ∨ d = 340)) fetchTile s7

/-- `PpuDot()`: exactly one dot (R540). -/
def ppuDot (s : State) : State :=
  let sl := s.ppu.scanline
  let d := s.ppu.dot
  let r := s.ppu.rendering
  let s1 := applyWhen (decide (sl = -1 ∧ d = 1)) (State.mapPpu Ppu.clearFlags) s
  let s2 := applyWhen (decide (-1 ≤ sl ∧ sl ≤ 239) && r) (pipelineDot sl d) s1
  let s3 := applyWhen (decide ((0 ≤ sl ∧ sl ≤ 239) ∧ 1 ≤ d ∧ d ≤ 256))
    (State.mapPpu (Ppu.renderPixel (d - 1) sl.toNat)) s2
  let s4 := applyWhen (decide (sl = 241 ∧ d = 1)) (State.mapPpu Ppu.startVblank) s3
  s4.mapPpu (Ppu.advance d r)

end Sys2Proof.Machine
end

