-- ==== Sys2Proof/Machine/CpuClock.lean ====
section
/-! DEFINITION. The CPU clock, instruction fetch, interrupt polling and sampling, and the tick
(40_addressing.md R180, 60_exceptions.md R403, R404, 61_bus_clocking.md R451, R452). -/

namespace Sys2Proof.Machine

/-- A change of the next state of an outcome. -/
def mapNext (f : State → State) (o : Host.Outcome State Fault Refusal) : Host.Outcome State Fault Refusal :=
  match o with
  | .next s => .next (f s)
  | .fault r => .fault r
  | .refused r => .refused r

/-! ## Fetch (R152, R180) -/

/-- `MemRead(PC); PC <- PC + 1`, modulo 2^16 (R152). -/
def fetchByte (s : State) : State × Byte :=
  let (s1, b) := memRead s.cpu.pc s
  (s1.setPc (s1.cpu.pc + 1), b)

/-- The fetch of an instruction: the opcode, kept in `opcode`, then the operand bytes of its mode, every byte an
ordinary bus read (R152, R180, D51). -/
def fetch (s : State) : State × Instr :=
  let (s1, op) := fetchByte s
  let s2 := s1.setOpcode op
  match (opcodeRow op).mode.operandBytes with
  | 0 => (s2, instrOf op 0 0)
  | 1 =>
    let (s3, b1) := fetchByte s2
    (s3, instrOf op b1 0)
  | _ =>
    let (s3, b1) := fetchByte s2
    let (s4, b2) := fetchByte s3
    (s4, instrOf op b1 b2)

/-! ## The instruction boundary and the clock (R180, R404) -/

/-- The NMI sequence: the latch is cleared, then the entry, 7 cycles (R404, R410). -/
def takeNmi (s : State) : State := (interrupt nmiVector false (s.setNmiPending false)).setCycles 7

/-- The IRQ sequence, 7 cycles (R404, R410). -/
def takeIrq (s : State) : State := (interrupt irqVector false s).setCycles 7

/-- An IRQ is taken when it is pending and I = 0 (R404). -/
def State.irqTaken (s : State) : Bool := !flagOf .i s.cpu.p && s.cpu.irqPending

/-- What the CPU does at an instruction boundary: NMI, else IRQ, else the next instruction (R404, R405). -/
def boundary (s : State) : Host.Outcome State Fault Refusal :=
  if s.cpu.nmiPending then .next (takeNmi s)
  else if s.irqTaken then .next (takeIrq s)
  else
    let r := fetch s
    exec r.2 r.1

/-- The end of every CPU clock: `cycles` down, `total_cycles` up (R43, R180). -/
def countClock (s : State) : State :=
  { s with cpu := { s.cpu with cycles := s.cpu.cycles - 1, totalCycles := s.cpu.totalCycles + 1 } }

/-- `P.U <- 1` after the work of a boundary, then the end of the clock (R180). -/
def closeBoundary (s : State) : State := countClock (s.setP (withU s.cpu.p))

/-- `CpuClock()` (R180). -/
def cpuClock (s : State) : Host.Outcome State Fault Refusal :=
  if s.cpu.cycles = 0 then mapNext closeBoundary (boundary s) else .next (countClock s)

/-! ## Interrupt sampling (R403, R452) -/

/-- `NmiSample()` (R403). -/
def nmiSample (s : State) : State :=
  if s.ppu.nmiOut then (s.setNmiPending true).mapPpu fun p => { p with nmiOut := false } else s

/-- `IrqSample()` (R403). -/
def irqSample (s : State) : State := s.setIrqPending (s.apu.frameIrq || (s.apu.dmcIrq || s.mapperIrq))

/-! ## The tick (R451) -/

/-- The devices of a CPU cycle, in the fixed order before the CPU clock (R451). -/
def clockDevices (s : State) : State := irqSample (nmiSample (mapperClock (apuClock s)))

/-- The tick has a CPU clock: `dot_count mod 3 = 0` (R451). -/
def State.cpuTick (s : State) : Bool := decide (s.dotCount.toNat % 3 = 0)

/-- `dot_count <- dot_count + 1` (R451). -/
def countDot (s : State) : State := { s with dotCount := s.dotCount + 1 }

/-- `Tick()` (R451). -/
def tick (s : State) : Host.Outcome State Fault Refusal :=
  let s1 := ppuDot s
  if s1.cpuTick then mapNext countDot (cpuClock (clockDevices s1)) else .next (countDot s1)

/-! ## Placing an instruction where the next tick fetches it -/

/-- A byte stored where a CPU read of the address finds it: internal RAM, PRG-RAM or PRG-ROM; none elsewhere. -/
def State.placeByte (a : Word) (b : Byte) (s : State) : Option State :=
  if a.toNat ≤ 0x1FFF then some (s.writeRam a b)
  else if a.toNat < 0x6000 then none
  else
    match s.cart with
    | none => none
    | some c =>
      if 0x8000 ≤ a.toNat then some { s with cart := some { c with prgRom := c.prgRom.write (c.prgIndex a) b } }
      else if c.prgRamEnabled then
        some { s with cart := some { c with prgRam := c.prgRam.write (a.toNat - 0x6000) b } }
      else none

/-- Bytes stored at consecutive addresses, modulo 2^16. -/
def State.placeBytes : Word → List Byte → State → Option State
  | _, [], s => some s
  | a, b :: rest, s =>
    match s.placeByte a b with
    | none => none
    | some s1 => State.placeBytes (a + 1) rest s1

/-- Bytes stored from PC on; where PC names no memory, PC is first set to $0000, in internal RAM. -/
def State.placeAtPc (bytes : List Byte) (s : State) : State :=
  match s.placeBytes s.cpu.pc bytes with
  | some s1 => s1
  | none => (s.setPc 0).writeRam 0 (bytes.getD 0 0) |>.writeRam 1 (bytes.getD 1 0) |>.writeRam 2 (bytes.getD 2 0)

/-- The next tick is a CPU clock at an instruction boundary with no NMI latched or raised by its dot. -/
def State.atBoundary (s : State) : State :=
  let s1 := (s.setCycles 0).setNmiPending false
  { s1 with
    dotCount := s.dotCount - BitVec.ofNat 64 (s.dotCount.toNat % 3)
    ppu := { s1.ppu with
      nmiOut := false
      dot := if s1.ppu.scanline = 241 ∧ s1.ppu.dot = 1 then 2 else s1.ppu.dot } }

/-- An IRQ that the next tick would take is masked by I. -/
def State.maskIrq (s : State) : State :=
  if (clockDevices (ppuDot s)).irqTaken then s.setP (withI s.cpu.p) else s

end Sys2Proof.Machine
end

