-- ==== Sys2Proof/Machine/Step.lean ====
section
/-! DEFINITION. One step of the machine: one `Tick()`, one PPU dot (61_bus_clocking.md R451,
notes/assumptions/1.md). -/

namespace Sys2Proof.Machine

/-- One step is one tick (R451). -/
def step (s : State) : Host.Outcome State Fault Refusal := tick s

/-- The state in which the very next step fetches and runs the instruction with the bits `w` of the opcode
table, its other bytes 0: the bytes stand at PC, the tick has a CPU clock at an instruction boundary, and no
interrupt is taken before the fetch (notes/assumptions/4.md). -/
def State.withFetchWord (s : State) (nbits w : Nat) : State :=
  ((s.placeAtPc (tableBytes nbits w)).atBoundary).maskIrq

end Sys2Proof.Machine
end

