-- ==== Sys2Proof/WellFormed.lean ====
section
/-! DEFINITION. What is checked before the machine runs.
No term of `Instr` is ill formed: every operand is a byte or a word, every value of it is legal and every opcode
decodes (30_encoding.md R153, R155, R156), so there is no check on instructions.
The checks are those of a cartridge image at load time (00_scope.md R9, 64_cartridge_mappers.md R755, D55). -/

namespace Sys2Proof

open Sys2Proof.Machine (HeaderMirroring)

/-- A parsed cartridge image: the configuration of D55. -/
structure CartImage where
  prgRom : List Byte
  /-- The CHR-ROM; empty when the cartridge has CHR-RAM. -/
  chrRom : List Byte
  mapperId : Nat
  mirroring : HeaderMirroring
  deriving DecidableEq, Repr

/-- `MAPPER_ID` is one of the five mappers (R755). -/
def CartImage.mapperSupported (i : CartImage) : Bool := decide (i.mapperId ≤ 4)

/-- The length of `PRG_ROM` is 16384 n with n at least 1 (R9, D55). -/
def CartImage.prgSizeOk (i : CartImage) : Bool :=
  decide (i.prgRom.length % 16384 = 0 ∧ i.prgRom.length ≠ 0)

/-- The length of the CHR-ROM is 8192 m (R9, D55). -/
def CartImage.chrSizeOk (i : CartImage) : Bool := decide (i.chrRom.length % 8192 = 0)

/-- An image that the load operation accepts. -/
def CartImage.wf (i : CartImage) : Bool := i.mapperSupported && (i.prgSizeOk && i.chrSizeOk)

end Sys2Proof
end

