-- ==== Sys2Proof/Machine/HostInterface.lean ====
section
/-! DEFINITION. Power-on, reset and the other calls that the host may make between two ticks
(61_bus_clocking.md R477 to R484, 70_reset_and_hazards.md R800 to R806, 64_cartridge_mappers.md R755).
The conformance trace is in Machine/Trace.lean. -/

namespace Sys2Proof.Machine

/-! ## Reset and power-on (R800, R801) -/

/-- A port at reset: buttons are kept (R70). -/
def Port.hostReset (p : Port) : Port := Port.reset p.buttons

/-- `Reset()`: every register at its reset value, memories and mapper registers kept, then the reset vector read
through the current mapping (R800, R805). -/
def State.hostReset (s : State) : State :=
  let s1 : State :=
    { s with
      cpu := Cpu.reset 0
      ppu := Ppu.reset s.ppu.oam s.ppu.vram s.ppu.palette s.ppu.frame
      apu := Apu.reset
      ctrl := { port0 := s.ctrl.port0.hostReset, port1 := s.ctrl.port1.hostReset, strobe := false }
      dotCount := 0 }
  let (s2, vector) := memRead16 resetVector s1
  s2.setPc vector

/-- `POWERON_MEM`: the power-on contents of every memory, an argument of power-on (R9, D15). -/
structure PowerOnMem where
  ram : Memory
  vram : Memory
  palette : Memory
  oam : Memory
  prgRam : Memory
  chrRam : Memory
  deriving DecidableEq, Repr

/-- A cartridge at power-on (R801). -/
def Cart.powerOn (m : PowerOnMem) (c : Cart) : Cart :=
  { c with prgRam := m.prgRam, chr := if c.chrIsRam then m.chrRam else c.chr, mapper := c.mapper.powerOn }

/-- `PowerOn()` (R801); the buttons are released, as 10_state.md R70 and R804 give them. -/
def State.powerOn (m : PowerOnMem) (s : State) : State :=
  State.hostReset
    { s with
      ram := m.ram
      ppu := { s.ppu with vram := m.vram, palette := m.palette, oam := m.oam, frame := [] }
      ctrl := { s.ctrl with port0 := Port.reset 0, port1 := Port.reset 0 }
      cart := s.cart.map (Cart.powerOn m) }

/-! ## Cartridges (R482, R755, D58) -/

/-- `MAPPER_ID` from header bytes 6 and 7 (R755). -/
def headerMapperId (b6 b7 : Byte) : Nat := ((b7 &&& 0xF0) ||| (b6 >>> 4)).toNat

/-- `HEADER_MIRRORING` from header byte 6: four-screen, else the vertical-mirroring flag (R755). -/
def headerMirroring (b6 : Byte) : HeaderMirroring :=
  if b6.getLsbD 3 then .fourScreen else if b6.getLsbD 0 then .vertical else .horizontal

/-- The mapper of an id at power-on (R755). -/
def Mapper.ofId : Nat → Option Mapper
  | 0 => some .nrom
  | 1 => some (.mmc1 Mmc1.powerOn)
  | 2 => some (.uxrom 0)
  | 3 => some (.cnrom 0)
  | 4 => some (.mmc3 Mmc3.powerOn)
  | _ => none

/-- The cartridge of an image, with power-on registers and memories (R482). -/
def CartImage.cart (m : PowerOnMem) (i : CartImage) (mapper : Mapper) : Cart :=
  { prgRom := Memory.ofBytes i.prgRom
    prgBanks := i.prgRom.length / 16384
    chr := if i.chrRom.isEmpty then m.chrRam else Memory.ofBytes i.chrRom
    chrBanks := if i.chrRom.isEmpty then 1 else i.chrRom.length / 8192
    chrIsRam := i.chrRom.isEmpty
    header := i.mirroring
    prgRam := m.prgRam
    mapper := mapper }

/-- `load_cartridge`: refused for an unsupported mapper or a bad size, else the cartridge is installed and
nothing else changes (R482, R755, D58, U23, U24). -/
def State.loadCartridge (m : PowerOnMem) (i : CartImage) (s : State) : Host.Outcome State Fault Refusal :=
  match Mapper.ofId i.mapperId with
  | none => .refused (.unsupportedMapper i.mapperId)
  | some mapper =>
    if i.wf then .next { s with cart := some (CartImage.cart m i mapper) } else .refused .cartridgeFormat

/-- `eject()` (R482). -/
def State.eject (s : State) : State := { s with cart := none }

/-! ## Inputs, outputs and bus accesses (R477 to R482) -/

/-- `set_controller(port, buttons)` (R477): port 0 (`second` false) or 1. -/
def State.setController (second : Bool) (b : Byte) (s : State) : State :=
  if second then { s with ctrl := { s.ctrl with port1 := { s.ctrl.port1 with buttons := b } } }
  else { s with ctrl := { s.ctrl with port0 := { s.ctrl.port0 with buttons := b } } }

/-- `frame_ready()`: returns `frame_complete` and clears it (R479). -/
def State.frameReady (s : State) : State × Bool :=
  (s.mapPpu fun p => { p with frameComplete := false }, s.ppu.frameComplete)

/-- One entry of the frame (R57, R479). -/
def State.pixelAt (s : State) (line x : Nat) : Pixel := cellRead Pixel.blank s.ppu.frame (256 * line + x)

/-- `frame_pixels()`: the frame in row-major order through `SYSTEM_PALETTE` (R479). -/
def State.framePixels (s : State) : List Rgb :=
  (List.range (256 * 240)).map fun k => Config.systemPalette (cellRead Pixel.blank s.ppu.frame k).colour

/-- Ticks until a frame is complete, at most `fuel` of them (R478). -/
def runUntilFrame : Nat → State → Host.Outcome State Fault Refusal
  | 0, s => .next s
  | fuel + 1, s =>
    match tick s with
    | .next s1 => if s1.ppu.frameComplete then .next s1 else runUntilFrame fuel s1
    | .fault r => .fault r
    | .refused r => .refused r

/-- `run_frame()`: ticks until `frame_complete`, which is then cleared; no frame is longer than 89,342 ticks
(R478, R502). -/
def runFrame (s : State) : Host.Outcome State Fault Refusal :=
  if s.ppu.frameComplete then .next s.frameReady.1
  else mapNext (fun t => t.frameReady.1) (runUntilFrame 89342 s)

/-- The host's `read(addr)` (R482). -/
def State.hostRead (a : Word) (s : State) : State × Byte := memRead a s

/-- The host's `write(addr, data)`: a DMA stall is added to `cycles` (R460, R482, D57). -/
def State.hostWrite (a : Word) (v : Byte) (s : State) : State :=
  let s1 := memWrite a v (s.setDmaStall 0)
  (s1.setCycles (s1.cpu.cycles + s1.cpu.dmaStall)).setDmaStall 0

/-! ## Save states (R75, R481, U25) -/

/-- What a save captures: exactly the state of 10_state.md R30 to R74, without the parameters of R9, which are no
state (R75, R481). The cartridge that the bus holds is part of it (R45, R71; notes/assumptions/13.md). -/
structure SavedState where
  cpu : Cpu
  ppu : Ppu
  apu : Apu
  ctrl : Controllers
  ram : Memory
  cart : Option Cart
  dotCount : BitVec 64
  deriving DecidableEq, Repr

/-- A save as the loader sees it: its version, and what its bytes decode to in that version, `none` for a bad
encoding. The byte format itself is the host's (00_scope.md R7; notes/assumptions/13.md). -/
structure SaveImage where
  version : Nat
  content : Option SavedState
  deriving DecidableEq, Repr

/-- The state that a save captures. -/
def State.captured (s : State) : SavedState :=
  { cpu := s.cpu, ppu := s.ppu, apu := s.apu, ctrl := s.ctrl, ram := s.ram, cart := s.cart, dotCount := s.dotCount }

/-- The machine with the captured state and its own parameters, which are fixed for a run (R75). -/
def State.restore (c : SavedState) (s : State) : State :=
  { cpu := c.cpu, ppu := c.ppu, apu := c.apu, ctrl := c.ctrl, ram := c.ram, cart := c.cart, dotCount := c.dotCount
    config := s.config }

/-- `save_state()` (R481). -/
def State.saveState (s : State) : SaveImage := { version := Config.saveVersion, content := some s.captured }

/-- `load_state(bytes)`: the whole state is replaced, or the load is refused for an unknown version or a bad
encoding (R481, U25). -/
def State.loadState (image : SaveImage) (s : State) : Host.Outcome State Fault Refusal :=
  if image.version = Config.saveVersion then
    match image.content with
    | some c => .next (s.restore c)
    | none => .refused .saveStateFormat
  else .refused .saveStateFormat

end Sys2Proof.Machine
end

