-- ==== Sys2Proof/Safety.lean ====
section
/-! DEFINITION. What a safe run is, the invariants of the machine, and the words in which claims about it are
stated: the bytes of every memory, what an instruction reads and where it stores, and frames. -/

namespace Sys2Proof

open Sys2Proof.Machine

/-! ## The work of an instruction's addressing mode (40_addressing.md R180, R195, R196) -/

/-- The instruction's addressing mode in a state. -/
def Instr.accessIn (i : Instr) (s : State) : Access := access i.mode i.operand1 i.operand2 (s.setDmaStall 0)

/-- The effective address that the mode leaves in `addr_abs`. -/
def Instr.address (i : Instr) (s : State) : Word := (i.accessIn s).state.cpu.addrAbs

/-- The instruction's data read: the state after it, and the byte. -/
def Instr.loadIn (i : Instr) (s : State) : State × Byte :=
  load (i.accessIn s).operand (i.accessIn s).state

/-- The cycles of an instruction that is no branch, without a DMA stall: base and page cross (R195). -/
def Instr.cost (i : Instr) (s : State) : Nat :=
  i.row.cycles + (if (i.accessIn s).crossed && i.row.paysCross then 1 else 0)

end Sys2Proof

namespace Sys2Proof.Machine

/-! ## Runs -/

/-- `n` steps. -/
def run : Nat → State → Host.Outcome State Fault Refusal
  | 0, s => .next s
  | n + 1, s =>
    match step s with
    | .next t => run n t
    | .fault r => .fault r
    | .refused r => .refused r

/-- A run of `n` steps is safe when no step of it stops; every run is (60_exceptions.md R400). -/
def SafeFor (n : Nat) (s : State) : Prop := ∃ t, run n s = .next t

/-- The instruction completes, and the next state has a property. -/
def Completes (i : Instr) (s : State) (q : State → Prop) : Prop := ∃ t, exec i s = .next t ∧ q t

/-! ## The bytes of the machine -/

/-- The byte memories of the machine (20_memory.md R100 to R103, 10_state.md R45 to R53, R71). -/
inductive Space where
  | ram
  | oam
  | vram
  | palette
  | prgRom
  | prgRam
  | chr
  deriving DecidableEq, Repr

/-- A byte memory; a cartridge's memory is empty when there is no cartridge. -/
def State.memoryOf (s : State) (m : Space) : Memory :=
  match m with
  | .ram => s.ram
  | .oam => s.ppu.oam
  | .vram => s.ppu.vram
  | .palette => s.ppu.palette
  | .prgRom => (s.cart.map Cart.prgRom).getD []
  | .prgRam => (s.cart.map Cart.prgRam).getD []
  | .chr => (s.cart.map Cart.chr).getD []

/-- One byte of a memory. -/
def State.byteAt (s : State) (m : Space) (k : Nat) : Byte := (s.memoryOf m).read k

/-- Every byte of every memory is the same. -/
def SameBytes (s t : State) : Prop := ∀ m k, t.byteAt m k = s.byteAt m k

/-- Every byte of every memory is the same but the one of the given cell, which is `v`. -/
def SameBytesBut (s t : State) (cell : Option (Space × Nat)) (v : Byte) : Prop :=
  ∀ m k, t.byteAt m k = if cell = some (m, k) then v else s.byteAt m k

/-- A CPU address of a device register: PPU, APU, OAM DMA, controllers or the unmapped $4018-$401F (R103). -/
def DeviceAddress (a : Word) : Prop := 0x2000 ≤ a.toNat ∧ a.toNat ≤ 0x401F

/-- The memory byte that a CPU write to an address that is no device register replaces (R103, R702): a byte of
internal RAM, a byte of enabled PRG-RAM, or none. -/
def State.storedCell (s : State) (a : Word) : Option (Space × Nat) :=
  if a.toNat ≤ 0x1FFF then some (.ram, a.toNat % 2048)
  else if 0x6000 ≤ a.toNat ∧ a.toNat ≤ 0x7FFF ∧ (s.cart.map Cart.prgRamEnabled).getD false = true then
    some (.prgRam, a.toNat - 0x6000)
  else none

/-- A byte of page 1, where the stack lives (10_state.md R31): the byte that a stack pointer names. -/
def State.stackByte (s : State) (sp : Byte) : Byte := s.byteAt .ram (256 + sp.toNat)

/-- The bytes of RAM after pushes: the listed (stack pointer, byte) pairs, the latest first, are in page 1, and every
other byte of every memory is the same. -/
def PushedBytes (s t : State) (l : List (Byte × Byte)) : Prop :=
  ∀ m k, t.byteAt m k =
    match l.find? (fun c => decide (m = Space.ram ∧ k = 256 + c.1.toNat)) with
    | some c => c.2
    | none => s.byteAt m k

/-- The DMA stall that a write to an address causes (61_bus_clocking.md R460). -/
def State.stallAt (s : State) (a : Word) : Nat :=
  if a.toNat = 0x4014 then 513 + s.cpu.totalCycles.toNat % 2 else 0

/-- The result and the carry of a shift or rotate in integer arithmetic (44_shift_rotate.md R291 to R294), also
of the first half of SLO, RLA, SRE and RRA (47_unofficial.md R345 to R348). -/
def shiftResult (o : Operation) (c : Bool) (m : Byte) : Nat × Bool :=
  match o with
  | .asl | .slo => (2 * m.toNat % 256, decide (128 ≤ m.toNat))
  | .rol | .rla => ((2 * m.toNat + c.toNat) % 256, decide (128 ≤ m.toNat))
  | .lsr | .sre => (m.toNat / 2, decide (m.toNat % 2 = 1))
  | .ror | .rra => (m.toNat / 2 + 128 * c.toNat, decide (m.toNat % 2 = 1))
  | _ => (m.toNat, c)

/-! ## Invariants -/

/-- P always has U = 1 and B = 0 (10_state.md R34, R35). -/
def State.StatusOk (s : State) : Prop := s.flag .u = true ∧ s.flag .b = false

/-- The PPU position is one of the 262 scanlines and 341 dots (10_state.md R54, 62_ppu.md R500). -/
def State.PositionOk (s : State) : Prop := -1 ≤ s.ppu.scanline ∧ s.ppu.scanline ≤ 260 ∧ s.ppu.dot ≤ 340

/-- The memories of a cartridge are canonical and no larger than its configuration says (R9, R71). -/
def Cart.MemoriesOk (c : Cart) : Prop :=
  1 ≤ c.prgBanks ∧ 1 ≤ c.chrBanks ∧
    (c.prgRom.wf = true ∧ c.prgRom.below (16384 * c.prgBanks) = true) ∧
    (c.prgRam.wf = true ∧ c.prgRam.below 8192 = true) ∧
    (c.chr.wf = true ∧ c.chr.below (8192 * c.chrBanks) = true)

/-- Every memory is in canonical form and holds no cell beyond its size. -/
def State.MemoriesOk (s : State) : Prop :=
  (s.ram.wf = true ∧ s.ram.below 2048 = true) ∧ (s.ppu.oam.wf = true ∧ s.ppu.oam.below 256 = true) ∧
    (s.ppu.vram.wf = true ∧ s.ppu.vram.below 4096 = true) ∧
    (s.ppu.palette.wf = true ∧ s.ppu.palette.below 32 = true) ∧
    (cellsWf Pixel.blank s.ppu.frame = true ∧ s.ppu.frame.all (fun c => decide (c.1 < 61440)) = true) ∧
    (∀ c, s.cart = some c → c.MemoriesOk)

/-- A mapper's own counters are in range (10_state.md R72). -/
def Mapper.CountersOk : Mapper → Prop
  | .mmc1 m => m.shiftCount ≤ 4
  | .nrom | .uxrom _ | .cnrom _ | .mmc3 _ => True

/-- The APU's counters are in range: the frame counter has not passed the last step of its mode, the DMC has at most
eight bits left, and the noise register, seeded with 1, is not stuck at 0 (63_apu.md R621, R651, R661). -/
def Apu.CountersOk (scale : FrameScale) (a : Apu) : Prop :=
  a.fc < stepTime scale (stepHalves.getD (lastStep a.fiveStep) 0) ∧ a.dmc.bitsLeft.toNat ≤ 8 ∧ a.noise.lfsr ≠ 0

/-- The counters with a stated range are in it: `spr_count` and the read indices 0..8, MMC1's `shift_count`
0..4, the APU's counters, and no DMA stall is left between clocks (10_state.md R56, R70, R72, 40_addressing.md
R180). -/
def State.CountersOk (s : State) : Prop :=
  s.ppu.sprCount ≤ 8 ∧ s.ctrl.port0.index ≤ 8 ∧ s.ctrl.port1.index ≤ 8 ∧ s.cpu.dmaStall = 0 ∧
    s.apu.CountersOk s.config.apuFrameScale ∧ (∀ c, s.cart = some c → c.mapper.CountersOk)

/-- `MAPPER_ID` of a mapper variant (00_scope.md R9, 64_cartridge_mappers.md R755). -/
def Mapper.id : Mapper → Nat
  | .nrom => 0
  | .mmc1 _ => 1
  | .uxrom _ => 2
  | .cnrom _ => 3
  | .mmc3 _ => 4

/-- What the machine can never change: the parameters, and a cartridge's ROM, sizes and header (10_state.md R75,
70_reset_and_hazards.md R805). -/
def Cart.SameConfiguration (c d : Cart) : Prop :=
  d.prgRom = c.prgRom ∧ d.prgBanks = c.prgBanks ∧ d.chrBanks = c.chrBanks ∧ d.chrIsRam = c.chrIsRam ∧
    d.header = c.header ∧ d.mapper.id = c.mapper.id ∧ (c.chrIsRam = false → d.chr = c.chr)

/-- The configuration of two states is the same. -/
def SameConfiguration (s t : State) : Prop :=
  t.config = s.config ∧
    ((s.cart = none ∧ t.cart = none) ∨ ∃ c d, s.cart = some c ∧ t.cart = some d ∧ c.SameConfiguration d)

/-! ## Frames -/

/-- The registers A, X, Y, SP and PC. -/
def RegistersAre (t : State) (a x y sp : Byte) (pc : Word) : Prop :=
  t.cpu.a = a ∧ t.cpu.x = x ∧ t.cpu.y = y ∧ t.cpu.sp = sp ∧ t.cpu.pc = pc

/-- Every flag of P but the listed ones is the same. -/
def FlagsKeptBut (fs : List Flag) (s t : State) : Prop := ∀ f, f ∉ fs → t.flag f = s.flag f

/-- Z and N are those of a result (00_scope.md R14). -/
def FlagsOfResult (t : State) (r : Byte) : Prop := t.flag .z = decide (r = 0) ∧ t.flag .n = decide (128 ≤ r.toNat)

/-- The interrupt latches, the opcode register and the clock count are the same. -/
def SameLatches (s t : State) : Prop :=
  t.cpu.opcode = s.cpu.opcode ∧ t.cpu.nmiPending = s.cpu.nmiPending ∧ t.cpu.irqPending = s.cpu.irqPending ∧
    t.cpu.totalCycles = s.cpu.totalCycles

/-- The working fields `fetched`, `addr_abs` and `addr_rel` are the same. -/
def SameWorking (s t : State) : Prop :=
  t.cpu.fetched = s.cpu.fetched ∧ t.cpu.addrAbs = s.cpu.addrAbs ∧ t.cpu.addrRel = s.cpu.addrRel

/-- The end of an instruction that started in `s` and whose mode and data read left the working fields of `r`:
`cycles` is `n` and no stall is left. -/
def Ends (s r t : State) (n : Nat) : Prop :=
  SameLatches s t ∧ SameWorking r t ∧ t.cpu.cycles = n ∧ t.cpu.dmaStall = 0

/-- Everything outside the CPU but the memories' bytes is the same: the devices with their registers, the
cartridge's mapper and configuration, the dot counter and the parameters. -/
def SameDevices (s t : State) : Prop :=
  t.ppu = s.ppu ∧ t.apu = s.apu ∧ t.ctrl = s.ctrl ∧ t.dotCount = s.dotCount ∧ t.config = s.config

/-- Everything outside the CPU is the same. -/
def SameOutside (s t : State) : Prop := SameDevices s t ∧ t.ram = s.ram ∧ t.cart = s.cart

/-- The instruction stored `v` at the CPU address `ea` and nothing else outside the CPU: `w` is the machine after
that bus write. At an address of no device register exactly the byte stored to has changed; a device register's
effect leaves internal RAM, PRG-RAM and PRG-ROM alone.
The bytes are read back through the canonical form of the memories, which every step keeps. -/
def Stored (s w t : State) (ea : Word) (v : Byte) : Prop :=
  SameOutside w t ∧ (¬ DeviceAddress ea → s.MemoriesOk → SameBytesBut s t (s.storedCell ea) v) ∧
    (DeviceAddress ea → ∀ m k, m = .ram ∨ m = .prgRom ∨ m = .prgRam → t.byteAt m k = s.byteAt m k)

/-! ## Consecutive bus reads -/

/-- `n` bytes read from consecutive addresses, modulo 2^16, each by the ordinary bus read (20_memory.md R105). -/
def readBytes : Nat → Word → State → State × List Byte
  | 0, _, s => (s, [])
  | n + 1, a, s =>
    let r := memRead a s
    let rest := readBytes n (a + 1) r.1
    (rest.1, r.2 :: rest.2)

end Sys2Proof.Machine
end

