-- ==== Sys2Proof/Certificates/Slice0/Obligations.lean ====
section
/-! DEFINITION. The statements for the provers, from the numbered rules of spec/. -/

section Statements

open Sys2Proof Sys2Proof.Machine

/-! ## Encoding and decoding -/

/-- Decoding the bytes of an instruction, whatever follows them, gives the instruction back and leaves the rest,
for every constructor and every operand value (30_encoding.md R150, R152, R153, R160). -/
def Obligations.DecodeOfEncodeGivesTheInstruction : Prop :=
  ∀ (i : Instr) (rest : List Byte), decode (encode i ++ rest) = .ok (i, rest)

/-- Every opcode decodes: any three bytes begin with an instruction, which has that opcode byte and encodes to the
bytes it was read from; the decoder leaves the rest (30_encoding.md R152, R155, R157). -/
def Obligations.EveryOpcodeDecodesAndEncodesBack : Prop :=
  ∀ (op b1 b2 : Byte) (rest : List Byte), ∃ i : Instr,
    decode (op :: b1 :: b2 :: rest) = .ok (i, (op :: b1 :: b2 :: rest).drop i.length) ∧
    encode i = (op :: b1 :: b2 :: rest).take i.length ∧ i.opcode = op

/-- A few words written out from the encodings of the instruction rules decode to their instructions
(41 to 47: R211, R240 to R244, R253, R291, R301, R302, R311, R331, R345, R372). -/
def Obligations.WrittenOutWordsDecode : Prop :=
  decode [0xA9, 0x42] = .ok (.ldaImm 0x42, []) ∧ decode [0x48] = .ok (.pha, []) ∧
  decode [0x7D, 0x34, 0x12] = .ok (.adcAbx 0x1234, []) ∧ decode [0x0A] = .ok (.aslAcc, []) ∧
  decode [0x6C, 0xFF, 0x02] = .ok (.jmpInd 0x02FF, []) ∧ decode [0x20, 0x00, 0x90] = .ok (.jsr 0x9000, []) ∧
  decode [0xD0, 0xFE] = .ok (.bne 0xFE, []) ∧ decode [0xF8] = .ok (.sed, []) ∧
  decode [0x03, 0x10] = .ok (.sloIzx 0x10, []) ∧ decode [0x02, 0xEA] = .ok (.jam02, [0xEA])

/-- The opcodes that pay the page-cross cycle are exactly the 31 of R197. -/
def Obligations.ReadClassIsTheThirtyOneOpcodes : Prop :=
  ∀ op : Byte, (opcodeRow op).paysCross = true ↔
    op ∈ ([0x7D, 0x79, 0x71, 0x3D, 0x39, 0x31, 0xDD, 0xD9, 0xD1, 0x5D, 0x59, 0x51, 0xBD, 0xB9, 0xB1,
      0x1D, 0x19, 0x11, 0xFD, 0xF9, 0xF1, 0xBE, 0xBC, 0xBF, 0xB3,
      0x1C, 0x3C, 0x5C, 0x7C, 0xDC, 0xFC] : List Byte)

/-! ## Fetch, step and tick -/

/-- When a tick's CPU clock stands at an instruction boundary with no interrupt to take, and the bytes that
consecutive bus reads give from PC on decode to an instruction, then the step is that instruction's `exec` on the
state after those reads with PC past the instruction and the opcode latched, and after it the end of the boundary
(`P.U <- 1`, `cycles` down, `total_cycles` up) and of the tick (`dot_count` up) (R152, R180, R404, R451). -/
def Obligations.StepRunsTheDecodedInstruction : Prop :=
  ∀ (s : State) (i : Instr),
    let s2 := clockDevices (ppuDot s)
    let r := readBytes i.length s2.cpu.pc s2
    s.dotCount.toNat % 3 = 0 → s2.cpu.cycles = 0 → s2.cpu.nmiPending = false →
    (s2.cpu.irqPending = false ∨ s2.flag .i = true) → decode r.2 = .ok (i, []) →
    step s = mapNext (fun t => countDot (countClock (t.setP (t.cpu.p ||| 0x20))))
      (exec i ((r.1.setPc (s2.cpu.pc + BitVec.ofNat 16 i.length)).setOpcode i.opcode))

/-- A tick without a CPU clock is exactly the PPU dot and the dot counter. A tick whose CPU clock falls inside an
instruction is exactly the PPU dot, the devices' clocks, the end of the CPU clock and the dot counter. Neither changes
a register, the status, a working field or a byte of RAM; the second counts `cycles` down and `total_cycles` up
(R180, R451). -/
def Obligations.TicksBetweenInstructionsChangeNoRegister : Prop :=
  ∀ s : State,
    (s.dotCount.toNat % 3 ≠ 0 →
      let t := countDot (ppuDot s)
      step s = .next t ∧ t.cpu = s.cpu ∧ t.apu = s.apu ∧ t.ctrl = s.ctrl ∧ t.ram = s.ram ∧ t.config = s.config ∧
        t.dotCount = s.dotCount + 1) ∧
    (s.dotCount.toNat % 3 = 0 → s.cpu.cycles ≠ 0 →
      let t := countDot (countClock (clockDevices (ppuDot s)))
      step s = .next t ∧ RegistersAre t s.cpu.a s.cpu.x s.cpu.y s.cpu.sp s.cpu.pc ∧ t.cpu.p = s.cpu.p ∧
        t.cpu.opcode = s.cpu.opcode ∧ SameWorking s t ∧ t.cpu.cycles = s.cpu.cycles - 1 ∧
        t.cpu.totalCycles = s.cpu.totalCycles + 1 ∧ t.ram = s.ram ∧ t.config = s.config ∧
        t.dotCount = s.dotCount + 1)

/-- No step stops and no instruction stops: there is no synchronous exception, no access fails and no opcode is
illegal (R400, R107). -/
def Obligations.NothingEverStops : Prop :=
  (∀ (i : Instr) (s : State), ∃ t, exec i s = .next t) ∧ (∀ s : State, ∃ t, step s = .next t) ∧
    (∀ (n : Nat) (s : State), SafeFor n s)

/-! ## Addressing modes -/

/-- The modes without a pointer: the effective address, the operand and the page-cross report, and no other change
of the state (R181 to R189, R193, R194). -/
def Obligations.DirectModesGiveTheirAddress : Prop :=
  ∀ (b1 b2 : Byte) (s : State),
    let abs := 256 * b2.toNat + b1.toNat
    let gives := fun (m : Mode) (ea : Nat) (crossed : Bool) =>
      access m b1 b2 s =
        { state := s.setAddrAbs (BitVec.ofNat 16 ea), operand := .memory, crossed := crossed }
    gives .zp b1.toNat false ∧ gives .zpx ((b1.toNat + s.cpu.x.toNat) % 256) false ∧
    gives .zpy ((b1.toNat + s.cpu.y.toNat) % 256) false ∧ gives .abs abs false ∧
    gives .abx ((abs + s.cpu.x.toNat) % 65536)
      (decide ((abs + s.cpu.x.toNat) % 65536 / 256 ≠ b2.toNat)) ∧
    gives .aby ((abs + s.cpu.y.toNat) % 65536)
      (decide ((abs + s.cpu.y.toNat) % 65536 / 256 ≠ b2.toNat)) ∧
    access .imm b1 b2 s =
      { state := s.setAddrAbs (s.cpu.pc - 1), operand := .immediate b1, crossed := false } ∧
    access .acc b1 b2 s = { state := s, operand := .accumulator, crossed := false } ∧
    access .imp b1 b2 s = { state := s, operand := .memory, crossed := false } ∧
    access .rel b1 b2 s =
      { state := s.setAddrRel (BitVec.ofInt 16 b1.toInt), operand := .memory, crossed := false }

/-- The pointer modes: (zp,X) and (zp),Y read their pointer in the zero page with wrap, low byte first, and JMP's
indirect mode reads both pointer bytes from one page (R190 to R192, R194). -/
def Obligations.PointerModesReadTheirPointer : Prop :=
  ∀ (b1 b2 : Byte) (s : State),
    let word := fun (z : Nat) => 256 * (s.byteAt .ram ((z + 1) % 256)).toNat + (s.byteAt .ram (z % 256)).toNat
    let gives := fun (m : Mode) (ea : Nat) (crossed : Bool) =>
      access m b1 b2 s =
        { state := s.setAddrAbs (BitVec.ofNat 16 ea), operand := .memory, crossed := crossed }
    gives .izx (word ((b1.toNat + s.cpu.x.toNat) % 256)) false ∧
    gives .izy ((word b1.toNat + s.cpu.y.toNat) % 65536)
      (decide ((word b1.toNat + s.cpu.y.toNat) % 65536 / 256 ≠ word b1.toNat / 256)) ∧
    (let lo := memRead (BitVec.ofNat 16 (256 * b2.toNat + b1.toNat)) s
     let hi := memRead (BitVec.ofNat 16 (256 * b2.toNat + (b1.toNat + 1) % 256)) lo.1
     access .ind b1 b2 s =
      { state := hi.1.setAddrAbs (BitVec.ofNat 16 (256 * hi.2.toNat + lo.2.toNat)), operand := .memory,
        crossed := false })

/-! ## Loads, stores, transfers -/

/-- What an instruction's mode and data read change, for every instruction: no register, no flag, no byte of any
memory, no latch; the byte is the immediate operand, A, or the byte at the effective address, and it stands in
`fetched`; an address of no device register has no side effect at all (R180, R182, R183, R196, R115). -/
def Obligations.DataReadsChangeNoRegisterAndNoByte : Prop :=
  ∀ (i : Instr) (s : State),
    let r := i.loadIn s
    RegistersAre r.1 s.cpu.a s.cpu.x s.cpu.y s.cpu.sp s.cpu.pc ∧ r.1.cpu.p = s.cpu.p ∧ SameLatches s r.1 ∧
    r.1.cpu.fetched = r.2 ∧ SameBytes s r.1 ∧ r.1.config = s.config ∧ r.1.dotCount = s.dotCount ∧
    (i.mode = .imm → r.2 = i.operand1 ∧ SameOutside s r.1) ∧ (i.mode = .acc → r.2 = s.cpu.a ∧ SameOutside s r.1) ∧
    (i.mode ≠ .imm → i.mode ≠ .acc → r.2 = (memRead (i.address s) (i.accessIn s).state).2) ∧
    (i.mode ≠ .ind → ¬ DeviceAddress (i.address s) → SameOutside s r.1)

/-- LDA, LDX, LDY and LAX, every form: the loaded byte enters A, X, Y, or A and X; Z and N are those of the byte;
nothing else changes but what the data read itself changes (R211 to R213, R341). -/
def Obligations.LoadsSetTheirRegister : Prop :=
  ∀ (i : Instr) (s : State),
    i.operation = .lda ∨ i.operation = .ldx ∨ i.operation = .ldy ∨ i.operation = .lax →
    let r := i.loadIn s
    Completes i s fun t =>
      RegistersAre t (if i.operation = .lda ∨ i.operation = .lax then r.2 else s.cpu.a)
        (if i.operation = .ldx ∨ i.operation = .lax then r.2 else s.cpu.x)
        (if i.operation = .ldy then r.2 else s.cpu.y) s.cpu.sp s.cpu.pc ∧
      FlagsOfResult t r.2 ∧ FlagsKeptBut [.z, .n] s t ∧ Ends s r.1 t (i.cost s) ∧ SameOutside r.1 t ∧
      SameBytes s t

/-- STA, STX, STY and SAX, every form: the register, or A AND X, is stored at the effective address; no register
and no flag changes; the cycle total is the row's, with the DMA stall of a write to $4014 (R214 to R216, R342). -/
def Obligations.StoresWriteTheirRegister : Prop :=
  ∀ (i : Instr) (s : State),
    i.operation = .sta ∨ i.operation = .stx ∨ i.operation = .sty ∨ i.operation = .sax →
    let at0 := (i.accessIn s).state
    let v := if i.operation = .sta then s.cpu.a else if i.operation = .stx then s.cpu.x
      else if i.operation = .sty then s.cpu.y else s.cpu.a &&& s.cpu.x
    Completes i s fun t =>
      RegistersAre t s.cpu.a s.cpu.x s.cpu.y s.cpu.sp s.cpu.pc ∧ t.cpu.p = s.cpu.p ∧
      Ends s at0 t (i.row.cycles + s.stallAt (i.address s)) ∧
      Stored s (memWrite (i.address s) v at0) t (i.address s) v

/-- TAX, TAY, TXA, TYA, TSX and TXS: the moved byte, its Z and N except for TXS, and nothing else. INX, INY, DEX and
DEY: X or Y up or down by one modulo 256, its Z and N, and nothing else (R217 to R222, R265 to R268). -/
def Obligations.RegisterInstructionsChangeOneRegister : Prop :=
  ∀ (i : Instr) (s : State),
    (i.operation = .tax ∨ i.operation = .tay ∨ i.operation = .txa ∨ i.operation = .tya ∨ i.operation = .tsx ∨
      i.operation = .txs →
      let v := if i.operation = .tax ∨ i.operation = .tay then s.cpu.a
        else if i.operation = .txa ∨ i.operation = .txs then s.cpu.x
        else if i.operation = .tya then s.cpu.y else s.cpu.sp
      Completes i s fun t =>
        RegistersAre t (if i.operation = .txa ∨ i.operation = .tya then v else s.cpu.a)
          (if i.operation = .tax ∨ i.operation = .tsx then v else s.cpu.x)
          (if i.operation = .tay then v else s.cpu.y) (if i.operation = .txs then v else s.cpu.sp) s.cpu.pc ∧
        (if i.operation = .txs then t.cpu.p = s.cpu.p else FlagsOfResult t v ∧ FlagsKeptBut [.z, .n] s t) ∧
        Ends s s t 2 ∧ SameOutside s t ∧ SameBytes s t) ∧
    (i.operation = .inx ∨ i.operation = .iny ∨ i.operation = .dex ∨ i.operation = .dey →
      let v : Nat := if i.operation = .inx then (s.cpu.x.toNat + 1) % 256
        else if i.operation = .dex then (s.cpu.x.toNat + 255) % 256
        else if i.operation = .iny then (s.cpu.y.toNat + 1) % 256 else (s.cpu.y.toNat + 255) % 256
      Completes i s fun t =>
        RegistersAre t s.cpu.a (if i.operation = .inx ∨ i.operation = .dex then BitVec.ofNat 8 v else s.cpu.x)
          (if i.operation = .iny ∨ i.operation = .dey then BitVec.ofNat 8 v else s.cpu.y) s.cpu.sp s.cpu.pc ∧
        FlagsOfResult t (BitVec.ofNat 8 v) ∧ FlagsKeptBut [.z, .n] s t ∧ Ends s s t 2 ∧ SameOutside s t ∧
        SameBytes s t)

/-! ## Stack -/

/-- PHA and PHP: A, or P with B = 1 and U = 1, goes to page 1 at SP; SP goes down by one modulo 256; no flag and no
other byte changes. PLA and PLP: SP goes up by one modulo 256 and names the pulled byte; PLA loads A with its Z and
N; PLP loads every flag but B, which is 0, and U, which is 1; no byte changes (R240 to R244). -/
def Obligations.StackInstructionsPushAndPullOneByte : Prop :=
  ∀ (i : Instr) (s : State),
    (i.operation = .pha ∨ i.operation = .php →
      Completes i s fun t =>
        RegistersAre t s.cpu.a s.cpu.x s.cpu.y (s.cpu.sp - 1) s.cpu.pc ∧ t.cpu.p = s.cpu.p ∧ Ends s s t 3 ∧
        SameDevices s t ∧ t.cart = s.cart ∧
        (s.MemoriesOk →
          PushedBytes s t [(s.cpu.sp, if i.operation = .pha then s.cpu.a else s.cpu.p ||| 0x30)])) ∧
    (i.operation = .pla ∨ i.operation = .plp →
      let v := s.stackByte (s.cpu.sp + 1)
      Completes i s fun t =>
        RegistersAre t (if i.operation = .pla then v else s.cpu.a) s.cpu.x s.cpu.y (s.cpu.sp + 1) s.cpu.pc ∧
        (if i.operation = .pla then FlagsOfResult t v ∧ FlagsKeptBut [.z, .n] s t
         else t.flag .b = false ∧ t.flag .u = true ∧ ∀ f, f ≠ .b → f ≠ .u → t.flag f = flagOf f v) ∧
        Ends s s t 4 ∧ SameOutside s t ∧ SameBytes s t)

/-! ## Arithmetic and logic -/

/-- ADC and SBC, every form, in integer arithmetic, whatever D is: the sum A + m + C, or the difference
A - m - (1 - C), modulo 256; C is the unsigned carry, or no borrow; V is set exactly when the signed value lies
outside -128..127; Z and N are those of the result (R250 to R254). -/
def Obligations.AdcSbcAreBinaryWithCarryAndOverflow : Prop :=
  ∀ (i : Instr) (s : State),
    i.operation = .adc ∨ i.operation = .sbc →
    let r := i.loadIn s
    let c := (s.flag .c).toNat
    let sum := s.cpu.a.toNat + r.2.toNat + c
    let signed := if i.operation = .adc then s.cpu.a.toInt + r.2.toInt + c else s.cpu.a.toInt - r.2.toInt - (1 - c)
    Completes i s fun t =>
      RegistersAre t (BitVec.ofInt 8 signed) s.cpu.x s.cpu.y s.cpu.sp s.cpu.pc ∧
      t.flag .c = (if i.operation = .adc then decide (255 < sum)
        else decide (r.2.toNat + (1 - c) ≤ s.cpu.a.toNat)) ∧
      t.flag .v = decide (signed < -128 ∨ 127 < signed) ∧ FlagsOfResult t (BitVec.ofInt 8 signed) ∧
      FlagsKeptBut [.c, .z, .v, .n] s t ∧ Ends s r.1 t (i.cost s) ∧ SameOutside r.1 t ∧ SameBytes s t

/-- AND, ORA and EOR, every form: the bitwise result in A with its Z and N. BIT: Z from A AND m, N and V from bits 7
and 6 of the memory byte; A is kept (R255 to R258). -/
def Obligations.LogicSetsAccumulatorAndBitTests : Prop :=
  ∀ (i : Instr) (s : State),
    let r := i.loadIn s
    (i.operation = .and ∨ i.operation = .ora ∨ i.operation = .eor →
      let v := if i.operation = .and then s.cpu.a &&& r.2 else if i.operation = .ora then s.cpu.a ||| r.2
        else s.cpu.a ^^^ r.2
      Completes i s fun t =>
        RegistersAre t v s.cpu.x s.cpu.y s.cpu.sp s.cpu.pc ∧ FlagsOfResult t v ∧ FlagsKeptBut [.z, .n] s t ∧
        Ends s r.1 t (i.cost s) ∧ SameOutside r.1 t ∧ SameBytes s t) ∧
    (i.operation = .bit →
      Completes i s fun t =>
        RegistersAre t s.cpu.a s.cpu.x s.cpu.y s.cpu.sp s.cpu.pc ∧
        t.flag .z = decide (s.cpu.a &&& r.2 = 0) ∧ t.flag .n = decide (128 ≤ r.2.toNat) ∧
        t.flag .v = decide (64 ≤ r.2.toNat % 128) ∧ FlagsKeptBut [.z, .n, .v] s t ∧
        Ends s r.1 t (i.cost s) ∧ SameOutside r.1 t ∧ SameBytes s t)

/-- CMP, CPX and CPY, every form: C for unsigned at least, Z for equal, N bit 7 of the difference; no register and
not V (R259 to R262). -/
def Obligations.ComparesSetFlagsOnly : Prop :=
  ∀ (i : Instr) (s : State),
    i.operation = .cmp ∨ i.operation = .cpx ∨ i.operation = .cpy →
    let r := i.loadIn s
    let reg := if i.operation = .cmp then s.cpu.a else if i.operation = .cpx then s.cpu.x else s.cpu.y
    Completes i s fun t =>
      RegistersAre t s.cpu.a s.cpu.x s.cpu.y s.cpu.sp s.cpu.pc ∧
      t.flag .c = decide (r.2.toNat ≤ reg.toNat) ∧ t.flag .z = decide (r.2.toNat = reg.toNat) ∧
      t.flag .n = decide (128 ≤ (reg.toNat + 256 - r.2.toNat) % 256) ∧ FlagsKeptBut [.c, .z, .n] s t ∧
      Ends s r.1 t (i.cost s) ∧ SameOutside r.1 t ∧ SameBytes s t

/-- ASL, LSR, ROL and ROR on A and on memory, in integer arithmetic: doubled or halved, the old carry entering the
free bit for the rotates, the bit shifted out in C. INC and DEC on memory, every form: the byte goes up or down by one
modulo 256, C and V are kept. One read and one write of the effective address; Z and N are those of the result
(R263, R264, R290 to R294). -/
def Obligations.ReadModifyWriteInstructions : Prop :=
  ∀ (i : Instr) (s : State),
    let r := i.loadIn s
    (i.operation = .asl ∨ i.operation = .lsr ∨ i.operation = .rol ∨ i.operation = .ror →
      let e := shiftResult i.operation (s.flag .c) r.2
      let v : Byte := BitVec.ofNat 8 e.1
      Completes i s fun t =>
        RegistersAre t (if i.mode = .acc then v else s.cpu.a) s.cpu.x s.cpu.y s.cpu.sp s.cpu.pc ∧
        t.flag .c = e.2 ∧ FlagsOfResult t v ∧ FlagsKeptBut [.c, .z, .n] s t ∧
        (if i.mode = .acc then Ends s r.1 t i.row.cycles ∧ SameOutside s t ∧ SameBytes s t
         else Ends s r.1 t (i.row.cycles + s.stallAt (i.address s)) ∧
          Stored s (memWrite (i.address s) v r.1) t (i.address s) v)) ∧
    (i.operation = .inc ∨ i.operation = .dec →
      let v : Byte := if i.operation = .inc then r.2 + 1 else r.2 - 1
      Completes i s fun t =>
        RegistersAre t s.cpu.a s.cpu.x s.cpu.y s.cpu.sp s.cpu.pc ∧ FlagsOfResult t v ∧ FlagsKeptBut [.z, .n] s t ∧
        Ends s r.1 t (i.row.cycles + s.stallAt (i.address s)) ∧
        Stored s (memWrite (i.address s) v r.1) t (i.address s) v)

/-! ## Control flow -/

/-- JMP absolute and indirect set PC to the mode's address; JSR pushes the address of its own last byte, high byte
first, and jumps; no flag changes (R300 to R302). -/
def Obligations.JumpsSetPc : Prop :=
  ∀ (i : Instr) (s : State),
    (i.operation = .jmp →
      Completes i s fun t =>
        RegistersAre t s.cpu.a s.cpu.x s.cpu.y s.cpu.sp (i.address s) ∧ t.cpu.p = s.cpu.p ∧
        Ends s (i.accessIn s).state t i.row.cycles ∧ SameOutside (i.accessIn s).state t ∧ SameBytes s t) ∧
    (i.operation = .jsr →
      let ret := s.cpu.pc - 1
      Completes i s fun t =>
        RegistersAre t s.cpu.a s.cpu.x s.cpu.y (s.cpu.sp - 2) (i.address s) ∧ t.cpu.p = s.cpu.p ∧
        Ends s (i.accessIn s).state t 6 ∧ SameDevices s t ∧ t.cart = s.cart ∧
        (s.MemoriesOk →
          PushedBytes s t [(s.cpu.sp - 1, BitVec.ofNat 8 (ret.toNat % 256)),
            (s.cpu.sp, BitVec.ofNat 8 (ret.toNat / 256))]))

/-- RTS pulls the low then the high byte and continues one past that address; RTI pulls P (B = 0, U = 1), then PC
low and high, with no one added; no byte changes (R303, R304, R412). -/
def Obligations.ReturnsPullPc : Prop :=
  ∀ (i : Instr) (s : State),
    let at1 := s.stackByte (s.cpu.sp + 1)
    let at2 := s.stackByte (s.cpu.sp + 2)
    let at3 := s.stackByte (s.cpu.sp + 3)
    (i.operation = .rts →
      Completes i s fun t =>
        RegistersAre t s.cpu.a s.cpu.x s.cpu.y (s.cpu.sp + 2)
          (BitVec.ofNat 16 (256 * at2.toNat + at1.toNat + 1)) ∧
        t.cpu.p = s.cpu.p ∧ Ends s s t 6 ∧ SameOutside s t ∧ SameBytes s t) ∧
    (i.operation = .rti →
      Completes i s fun t =>
        RegistersAre t s.cpu.a s.cpu.x s.cpu.y (s.cpu.sp + 3) (BitVec.ofNat 16 (256 * at3.toNat + at2.toNat)) ∧
        (t.flag .b = false ∧ t.flag .u = true ∧ ∀ f, f ≠ .b → f ≠ .u → t.flag f = flagOf f at1) ∧
        Ends s s t 6 ∧ SameOutside s t ∧ SameBytes s t)

/-- BRK pushes the address two past its opcode, high byte first, then P with B = 1 and U = 1; it sets I, keeps every
other flag, and continues at the address in $FFFE/$FFFF (R305, R410). -/
def Obligations.BrkEntersTheIrqVector : Prop :=
  ∀ (i : Instr) (s : State),
    i.operation = .brk →
    let ret := s.cpu.pc + 1
    Completes i s fun t =>
      RegistersAre t s.cpu.a s.cpu.x s.cpu.y (s.cpu.sp - 3)
        (BitVec.ofNat 16 (256 * (memRead 0xFFFF s).2.toNat + (memRead 0xFFFE s).2.toNat)) ∧
      t.flag .i = true ∧ FlagsKeptBut [.i] s t ∧ Ends s s t 7 ∧ SameDevices s t ∧ t.cart = s.cart ∧
      (s.MemoriesOk →
        PushedBytes s t [(s.cpu.sp - 2, s.cpu.p ||| 0x30), (s.cpu.sp - 1, BitVec.ofNat 8 (ret.toNat % 256)),
          (s.cpu.sp, BitVec.ofNat 8 (ret.toNat / 256))])

/-- The eight branches: taken on their flag, to the signed offset from the next instruction; 2 cycles when not
taken, 3 when taken in the page of the next instruction, else 4; no flag changes (R193, R306 to R314). -/
def Obligations.BranchesFollowTheirFlag : Prop :=
  ∀ (i : Instr) (s : State),
    i.mode = .rel →
    let taken := match i.operation with
      | .bcc => !s.flag .c
      | .bcs => s.flag .c
      | .bne => !s.flag .z
      | .beq => s.flag .z
      | .bpl => !s.flag .n
      | .bmi => s.flag .n
      | .bvc => !s.flag .v
      | _ => s.flag .v
    let offset : Word := BitVec.ofInt 16 i.operand1.toInt
    let target := s.cpu.pc + offset
    Completes i s fun t =>
      RegistersAre t s.cpu.a s.cpu.x s.cpu.y s.cpu.sp (if taken then target else s.cpu.pc) ∧
      t.cpu.p = s.cpu.p ∧ SameLatches s t ∧ t.cpu.addrRel = offset ∧ t.cpu.addrAbs = s.cpu.addrAbs ∧
      t.cpu.fetched = s.cpu.fetched ∧ t.cpu.dmaStall = 0 ∧
      t.cpu.cycles = (if taken then (if target.toNat / 256 = s.cpu.pc.toNat / 256 then 3 else 4) else 2) ∧
      SameOutside s t ∧ SameBytes s t

/-! ## Flags and no-operations -/

/-- CLC, SEC, CLI, SEI, CLV, CLD and SED write their one flag and nothing else (R330 to R336). -/
def Obligations.FlagInstructionsWriteOneFlag : Prop :=
  ∀ (i : Instr) (s : State) (f : Flag) (v : Bool),
    (i.operation, f, v) ∈ ([(.clc, .c, false), (.sec, .c, true), (.cli, .i, false), (.sei, .i, true),
      (.clv, .v, false), (.cld, .d, false), (.sed, .d, true)] : List (Operation × Flag × Bool)) →
    Completes i s fun t =>
      RegistersAre t s.cpu.a s.cpu.x s.cpu.y s.cpu.sp s.cpu.pc ∧ t.flag f = v ∧ FlagsKeptBut [f] s t ∧
      Ends s s t 2 ∧ SameOutside s t ∧ SameBytes s t

/-- NOP, the NOP map, the unstable XAA and LXA and the twenty unhandled opcodes: no register, no flag and no byte
changes; those with an operand read it once (R337, R360 to R365, R370 to R372). -/
def Obligations.NopsOnlyReadTheirOperand : Prop :=
  ∀ (i : Instr) (s : State),
    i.operation ∈ ([.nop, .xaa, .lxa, .jam, .sha, .tas, .shy, .shx, .las, .sbx, .usbc] : List Operation) →
    let r := if i.mode = .imp then s else (i.loadIn s).1
    Completes i s fun t =>
      RegistersAre t s.cpu.a s.cpu.x s.cpu.y s.cpu.sp s.cpu.pc ∧ t.cpu.p = s.cpu.p ∧ Ends s r t (i.cost s) ∧
      SameOutside r t ∧ SameBytes s t

/-! ## Unofficial read-modify-write and immediate opcodes -/

/-- SLO, RLA and SRE, every form: the shifted byte is stored and combined into A by OR, AND or EOR; C from the
shift, Z and N from A. DCP, every form: the decremented byte is stored and compared with A
(R340, R343, R345 to R347). -/
def Obligations.ModifyAndCombineOpcodes : Prop :=
  ∀ (i : Instr) (s : State),
    let r := i.loadIn s
    (i.operation = .slo ∨ i.operation = .rla ∨ i.operation = .sre →
      let e := shiftResult i.operation (s.flag .c) r.2
      let v : Byte := BitVec.ofNat 8 e.1
      let a := if i.operation = .slo then s.cpu.a ||| v else if i.operation = .rla then s.cpu.a &&& v
        else s.cpu.a ^^^ v
      Completes i s fun t =>
        RegistersAre t a s.cpu.x s.cpu.y s.cpu.sp s.cpu.pc ∧ t.flag .c = e.2 ∧ FlagsOfResult t a ∧
        FlagsKeptBut [.c, .z, .n] s t ∧ Ends s r.1 t (i.row.cycles + s.stallAt (i.address s)) ∧
        Stored s (memWrite (i.address s) v r.1) t (i.address s) v) ∧
    (i.operation = .dcp →
      let v : Byte := r.2 - 1
      Completes i s fun t =>
        RegistersAre t s.cpu.a s.cpu.x s.cpu.y s.cpu.sp s.cpu.pc ∧
        t.flag .c = decide (v.toNat ≤ s.cpu.a.toNat) ∧ t.flag .z = decide (v.toNat = s.cpu.a.toNat) ∧
        t.flag .n = decide (128 ≤ (s.cpu.a.toNat + 256 - v.toNat) % 256) ∧ FlagsKeptBut [.c, .z, .n] s t ∧
        Ends s r.1 t (i.row.cycles + s.stallAt (i.address s)) ∧
        Stored s (memWrite (i.address s) v r.1) t (i.address s) v)

/-- RRA and ISC, every form: the rotated byte is stored and added with the carry of the rotate, or the incremented
byte is stored and subtracted; the flags are those of ADC and SBC (R340, R344, R348). -/
def Obligations.RotateAddAndIncrementSubtractOpcodes : Prop :=
  ∀ (i : Instr) (s : State),
    i.operation = .rra ∨ i.operation = .isc →
    let r := i.loadIn s
    let e := shiftResult .rra (s.flag .c) r.2
    let v : Byte := if i.operation = .rra then BitVec.ofNat 8 e.1 else r.2 + 1
    let c := if i.operation = .rra then e.2.toNat else (s.flag .c).toNat
    let signed := if i.operation = .rra then s.cpu.a.toInt + v.toInt + c else s.cpu.a.toInt - v.toInt - (1 - c)
    Completes i s fun t =>
      RegistersAre t (BitVec.ofInt 8 signed) s.cpu.x s.cpu.y s.cpu.sp s.cpu.pc ∧
      t.flag .c = (if i.operation = .rra then decide (255 < s.cpu.a.toNat + v.toNat + c)
        else decide (v.toNat + (1 - c) ≤ s.cpu.a.toNat)) ∧
      t.flag .v = decide (signed < -128 ∨ 127 < signed) ∧ FlagsOfResult t (BitVec.ofInt 8 signed) ∧
      FlagsKeptBut [.c, .z, .v, .n] s t ∧ Ends s r.1 t (i.row.cycles + s.stallAt (i.address s)) ∧
      Stored s (memWrite (i.address s) v r.1) t (i.address s) v

/-- ANC, ALR and ARR: A AND the immediate byte, kept, halved, or halved with the old carry in bit 7; ANC copies N
into C; ALR puts bit 0 into C; ARR puts bit 6 into C and bit 6 xor bit 5 into V (R349 to R351). -/
def Obligations.ImmediateAndOpcodes : Prop :=
  ∀ (i : Instr) (s : State),
    i.operation = .anc ∨ i.operation = .alr ∨ i.operation = .arr →
    let m := s.cpu.a &&& i.operand1
    let v : Byte := if i.operation = .anc then m else if i.operation = .alr then BitVec.ofNat 8 (m.toNat / 2)
      else BitVec.ofNat 8 (m.toNat / 2 + 128 * (s.flag .c).toNat)
    Completes i s fun t =>
      RegistersAre t v s.cpu.x s.cpu.y s.cpu.sp s.cpu.pc ∧ FlagsOfResult t v ∧
      t.flag .c = (if i.operation = .anc then decide (128 ≤ v.toNat)
        else if i.operation = .alr then decide (m.toNat % 2 = 1) else decide (64 ≤ v.toNat % 128)) ∧
      (if i.operation = .arr then t.flag .v = (decide (64 ≤ v.toNat % 128) ^^ decide (32 ≤ v.toNat % 64))
       else t.flag .v = s.flag .v) ∧
      FlagsKeptBut [.c, .z, .v, .n] s t ∧ Ends s (i.loadIn s).1 t 2 ∧ SameOutside s t ∧ SameBytes s t

/-! ## Interrupts -/

/-- At an instruction boundary a latched NMI, else an asserted IRQ with I = 0, runs the entry sequence: PC high, PC
low and P with B = 0 and U = 1 are pushed, I is set, every other flag is kept, PC comes from $FFFA or $FFFE, and it
takes 7 clocks; the NMI latch is cleared by an NMI and kept by an IRQ (R401, R404, R405, R410, R180). -/
def Obligations.InterruptEntryAtABoundary : Prop :=
  ∀ s : State, s.cpu.cycles = 0 →
    (s.cpu.nmiPending = true ∨ (s.cpu.irqPending = true ∧ s.flag .i = false)) →
    let vector : Word := if s.cpu.nmiPending then 0xFFFA else 0xFFFE
    ∃ t, cpuClock s = .next t ∧
      RegistersAre t s.cpu.a s.cpu.x s.cpu.y (s.cpu.sp - 3)
        (BitVec.ofNat 16 (256 * (memRead (vector + 1) s).2.toNat + (memRead vector s).2.toNat)) ∧
      t.flag .i = true ∧ t.flag .u = true ∧ FlagsKeptBut [.i, .u] s t ∧
      t.cpu.nmiPending = false ∧ t.cpu.irqPending = s.cpu.irqPending ∧ t.cpu.opcode = s.cpu.opcode ∧
      SameWorking s t ∧ t.cpu.cycles = 6 ∧ t.cpu.totalCycles = s.cpu.totalCycles + 1 ∧
      SameDevices s t ∧ t.cart = s.cart ∧
      (s.MemoriesOk →
        PushedBytes s t [(s.cpu.sp - 2, (s.cpu.p &&& 0xEF) ||| 0x20),
          (s.cpu.sp - 1, BitVec.ofNat 8 (s.cpu.pc.toNat % 256)),
          (s.cpu.sp, BitVec.ofNat 8 (s.cpu.pc.toNat / 256))])

/-- The sampling of the two lines once per CPU cycle: the NMI latch takes the PPU's output, which is cleared, and
stays set; the IRQ level is the OR of the frame, DMC and mapper sources (R403). -/
def Obligations.SamplingLatchesNmiAndFollowsIrq : Prop :=
  ∀ s : State,
    (nmiSample s).cpu.nmiPending = (s.cpu.nmiPending || s.ppu.nmiOut) ∧ (nmiSample s).ppu.nmiOut = false ∧
    nmiSample s = { s with
      cpu := { s.cpu with nmiPending := s.cpu.nmiPending || s.ppu.nmiOut }, ppu := { s.ppu with nmiOut := false } } ∧
    irqSample s = { s with
      cpu := { s.cpu with irqPending := s.apu.frameIrq || s.apu.dmcIrq || s.mapperIrq } }

/-- A JSR followed by the RTS of its subroutine continues after the JSR with SP, A, X, Y and P as before; an
interrupt sequence (NMI, IRQ or BRK's) followed by RTI resumes at the pushed PC with SP, A, X and Y as before and P
as before but B = 0 and U = 1 (R302, R303, R304, R410, R412). -/
def Obligations.ReturnsUndoCallsAndInterrupts : Prop :=
  ∀ s : State, s.MemoriesOk →
    (∀ w : Word, ∃ t u, exec (.jsr w) s = .next t ∧ t.cpu.pc = w ∧ exec .rts t = .next u ∧
      RegistersAre u s.cpu.a s.cpu.x s.cpu.y s.cpu.sp s.cpu.pc ∧ u.cpu.p = s.cpu.p) ∧
    (∀ (vector : Word) (b : Bool), 0x4020 ≤ vector.toNat → vector.toNat < 0xFFFF →
      ∃ u, exec .rti (interrupt vector b s) = .next u ∧
        RegistersAre u s.cpu.a s.cpu.x s.cpu.y s.cpu.sp s.cpu.pc ∧ u.flag .b = false ∧ u.flag .u = true ∧
        FlagsKeptBut [.b, .u] s u)

/-! ## The CPU bus -/

/-- The CPU address map for reads: RAM mirrored every $0800, PPU registers mirrored every 8 bytes, 0 from the
write-only and unmapped addresses, PRG-RAM while it is enabled, PRG-ROM through the mapper's banking, and 0 from the
cartridge area with no cartridge (R103, R105, R107, R702). -/
def Obligations.CpuReadMap : Prop :=
  ∀ (a : Word) (s : State),
    (a.toNat ≤ 0x1FFF → memRead a s = (s, s.byteAt .ram (a.toNat % 2048))) ∧
    (0x2000 ≤ a.toNat → a.toNat ≤ 0x3FFF → memRead a s = ppuRegRead (a.toNat % 8) s) ∧
    (0x4000 ≤ a.toNat → a.toNat ≤ 0x4014 → memRead a s = (s, 0)) ∧
    (a.toNat = 0x4015 → memRead a s = apuStatusRead s) ∧
    (a.toNat = 0x4016 → memRead a s = controllerRead false s) ∧
    (a.toNat = 0x4017 → memRead a s = controllerRead true s) ∧
    (0x4018 ≤ a.toNat → a.toNat ≤ 0x5FFF → memRead a s = (s, 0)) ∧
    (0x6000 ≤ a.toNat → a.toNat ≤ 0x7FFF →
      memRead a s = (s, if (s.cart.map Cart.prgRamEnabled).getD false then s.byteAt .prgRam (a.toNat - 0x6000)
        else 0)) ∧
    (0x8000 ≤ a.toNat → (s.cart = none → memRead a s = (s, 0)) ∧
      ∀ c, s.cart = some c → memRead a s = (s, c.prgRom.read (c.prgIndex a)))

/-- The CPU address map for writes: RAM mirrored, PPU registers mirrored, the APU registers, OAM DMA, the strobe and
the frame counter at their addresses, $4018-$5FFF ignored, PRG-RAM only while it is enabled, and a write to
$8000-$FFFF reaches only the mapper's registers (R103, R106, R107, R702). -/
def Obligations.CpuWriteMap : Prop :=
  ∀ (a : Word) (v : Byte) (s : State),
    (a.toNat ≤ 0x1FFF → memWrite a v s = { s with ram := s.ram.write (a.toNat % 2048) v }) ∧
    (0x2000 ≤ a.toNat → a.toNat ≤ 0x3FFF → memWrite a v s = ppuRegWrite (a.toNat % 8) v s) ∧
    (0x4000 ≤ a.toNat → a.toNat ≤ 0x4013 ∨ a.toNat = 0x4015 ∨ a.toNat = 0x4017 → a.toNat ≤ 0x4017 →
      memWrite a v s = { s with apu := s.apu.writeRegister (a.toNat - 0x4000) v }) ∧
    (a.toNat = 0x4014 → memWrite a v s = oamDma v s) ∧
    (a.toNat = 0x4016 → memWrite a v s = { s with ctrl := s.ctrl.writeStrobe v }) ∧
    (0x4018 ≤ a.toNat → a.toNat ≤ 0x5FFF → memWrite a v s = s) ∧
    (s.cart = none → 0x4020 ≤ a.toNat → memWrite a v s = s) ∧
    (∀ c, s.cart = some c →
      (0x6000 ≤ a.toNat → a.toNat ≤ 0x7FFF →
        memWrite a v s = if c.prgRamEnabled then
          { s with cart := some { c with prgRam := c.prgRam.write (a.toNat - 0x6000) v } } else s) ∧
      (0x8000 ≤ a.toNat → memWrite a v s = { s with cart := some { c with mapper := c.mapper.write a v } }))

/-- OAM DMA. From every page, a device page too, it reads the 256 bytes of the page in order by the ordinary bus read
and writes each into OAM from OAMADDR on, wrapping once; OAMADDR, RAM and every other CPU register are kept, and the
stall is 513 cycles, 514 when `total_cycles` is odd. From a page of memory nothing else changes. From a PPU page,
$20 to $3F, the 32 reads each of $2002 and $2007 clear vblank and w and advance v 32 times. From page $40 the reads of
$4015, $4016 and $4017 clear the frame IRQ and shift the controllers (R460, R471, R522, R527, R611). -/
def Obligations.OamDmaCopiesAPage : Prop :=
  ∀ (p : Byte) (s : State),
    let address := fun (i : Nat) => BitVec.ofNat 16 (256 * p.toNat + i)
    let copyByte := fun (u : State) (i : Nat) =>
      let r := memRead (address i) u
      { r.1 with ppu := { r.1.ppu with oam := r.1.ppu.oam.write ((s.ppu.oamaddr.toNat + i) % 256) r.2 } }
    let copied := (List.range 256).foldl copyByte s
    let t := memWrite 0x4014 p s
    t = { copied with cpu := { s.cpu with dmaStall := 513 + s.cpu.totalCycles.toNat % 2 } } ∧
    t.ppu.oamaddr = s.ppu.oamaddr ∧ t.ram = s.ram ∧ t.dotCount = s.dotCount ∧ t.config = s.config ∧
    (¬ (0x20 ≤ p.toNat ∧ p.toNat ≤ 0x40) → s.MemoriesOk →
      (∀ i : Nat, i < 256 → t.byteAt .oam ((s.ppu.oamaddr.toNat + i) % 256) = (memRead (address i) s).2) ∧
      t.ppu = { s.ppu with oam := t.ppu.oam } ∧ t.apu = s.apu ∧ t.ctrl = s.ctrl ∧ t.cart = s.cart) ∧
    (0x20 ≤ p.toNat → p.toNat ≤ 0x3F →
      t.ppu = { s.ppu with
        oam := t.ppu.oam, dataBuffer := t.ppu.dataBuffer, vblank := false, w := false
        v := s.ppu.v + (if s.ppu.ctrl.getLsbD 2 then 1024 else 32) } ∧
      t.apu = s.apu ∧ t.ctrl = s.ctrl) ∧
    (p.toNat = 0x40 →
      t.ppu = { s.ppu with oam := t.ppu.oam } ∧ t.apu = { s.apu with frameIrq := false } ∧ t.cart = s.cart ∧
      t.ctrl = (memRead 0x4017 (memRead 0x4016 s).1).1.ctrl)

/-- After a strobe of 1 then 0, reads of $4016 give the buttons of port 0 in the order A, B, Select, Start, Up, Down,
Left, Right, then 1; $4017 gives those of port 1. In every state with strobe 1 a read of either port gives its button A,
reloads its latch and keeps the strobe, so that every read after it does too; in every state with strobe 0 a read gives
the latched bit of its index and moves the index, or gives 1 from index 8 on (R470 to R472). -/
def Obligations.ControllersShiftTheirButtons : Prop :=
  ∀ s : State,
    let reads := fun (a : Word) (n : Nat) (st : State) =>
      ((List.range n).foldl (fun (acc : State × List Byte) _ =>
        let r := memRead a acc.1
        (r.1, acc.2 ++ [r.2])) (st, [])).2
    let bits := fun (b : Byte) => (List.range 8).map fun k => boolBit 8 (b.getLsbD k)
    let strobed := memWrite 0x4016 0 (memWrite 0x4016 1 s)
    let port0Is := fun (q : Port) => { s with ctrl := { s.ctrl with port0 := q } }
    let port1Is := fun (q : Port) => { s with ctrl := { s.ctrl with port1 := q } }
    let shifted := fun (q : Port) => { q with index := q.index + 1 }
    let reloaded := fun (q : Port) => { q with latch := q.buttons, index := 0 }
    let bitAt := fun (q : Port) => boolBit 8 (q.latch.getLsbD q.index)
    reads 0x4016 10 strobed = bits s.ctrl.port0.buttons ++ [1, 1] ∧
    reads 0x4017 10 strobed = bits s.ctrl.port1.buttons ++ [1, 1] ∧
    (s.ctrl.strobe = true →
      memRead 0x4016 s = (port0Is (reloaded s.ctrl.port0), boolBit 8 (s.ctrl.port0.buttons.getLsbD 0)) ∧
      memRead 0x4017 s = (port1Is (reloaded s.ctrl.port1), boolBit 8 (s.ctrl.port1.buttons.getLsbD 0)) ∧
      ∀ n : Nat, reads 0x4016 n s = List.replicate n (boolBit 8 (s.ctrl.port0.buttons.getLsbD 0)) ∧
        reads 0x4017 n s = List.replicate n (boolBit 8 (s.ctrl.port1.buttons.getLsbD 0))) ∧
    (s.ctrl.strobe = false →
      memRead 0x4016 s = (if s.ctrl.port0.index < 8 then (port0Is (shifted s.ctrl.port0), bitAt s.ctrl.port0)
        else (s, 1)) ∧
      memRead 0x4017 s = (if s.ctrl.port1.index < 8 then (port1Is (shifted s.ctrl.port1), bitAt s.ctrl.port1)
        else (s, 1))) ∧
    (∀ d : Byte, (memWrite 0x4016 d s).ctrl.strobe = d.getLsbD 0 ∧
      (memWrite 0x4016 d s).ctrl.port0 = (if d.getLsbD 0 then reloaded s.ctrl.port0 else s.ctrl.port0) ∧
      (memWrite 0x4016 d s).ctrl.port1 = (if d.getLsbD 0 then reloaded s.ctrl.port1 else s.ctrl.port1))

/-! ## PPU registers -/

/-- A $2002 read gives vblank, sprite-0 hit and overflow in bits 7 to 5 and the low five bits of the PPUDATA buffer;
it clears vblank and w and nothing else (R522). -/
def Obligations.StatusReadClearsVblankAndToggle : Prop :=
  ∀ s : State,
    let r := memRead 0x2002 s
    r.2.toNat = 128 * s.ppu.vblank.toNat + 64 * s.ppu.sprite0Hit.toNat + 32 * s.ppu.spriteOverflow.toNat +
      s.ppu.dataBuffer.toNat % 32 ∧
    r.1 = { s with ppu := { s.ppu with vblank := false, w := false } }

/-- OAMADDR and OAMDATA: $2003 sets the address, a $2004 write stores and advances, a $2004 read gives the byte with
no advance and no mask; the write-only registers read 0 with no effect (R520, R523, R524). -/
def Obligations.OamRegistersAndWriteOnlyReads : Prop :=
  ∀ (d : Byte) (s : State),
    memWrite 0x2003 d s = { s with ppu := { s.ppu with oamaddr := d } } ∧
    memWrite 0x2004 d s =
      { s with ppu := { s.ppu with oam := s.ppu.oam.write s.ppu.oamaddr.toNat d, oamaddr := s.ppu.oamaddr + 1 } } ∧
    memRead 0x2004 s = (s, s.byteAt .oam s.ppu.oamaddr.toNat) ∧
    (∀ a ∈ ([0x2000, 0x2001, 0x2003, 0x2005, 0x2006] : List Word), memRead a s = (s, 0))

/-- The two writes of $2005 and of $2006, field by field of t: fine X and coarse X, then fine Y and coarse Y, the
nametable bits kept; the high six bits with bit 14 cleared, then the low byte with t copied to v (R529, R530). -/
def Obligations.ScrollAndAddressWrites : Prop :=
  ∀ (d : Byte) (s : State),
    let scroll := (memWrite 0x2005 d s).ppu
    let addr := (memWrite 0x2006 d s).ppu
    (s.ppu.w = false →
      scroll = { s.ppu with x := scroll.x, t := scroll.t, w := true } ∧ scroll.x.toNat = d.toNat % 8 ∧
      (coarseX scroll.t).toNat = d.toNat / 8 ∧ scroll.t.toNat / 32 = s.ppu.t.toNat / 32 ∧
      addr = { s.ppu with t := addr.t, w := true } ∧
      addr.t.toNat = 256 * (d.toNat % 64) + s.ppu.t.toNat % 256) ∧
    (s.ppu.w = true →
      scroll = { s.ppu with t := scroll.t, w := false } ∧ (fineY scroll.t).toNat = d.toNat % 8 ∧
      (coarseY scroll.t).toNat = d.toNat / 8 ∧ coarseX scroll.t = coarseX s.ppu.t ∧
      scroll.t.extractLsb' 10 2 = s.ppu.t.extractLsb' 10 2 ∧
      addr = { s.ppu with t := addr.t, v := addr.t, w := false } ∧
      addr.t.toNat = 256 * (s.ppu.t.toNat / 256) + d.toNat)

/-- PPUDATA: a read gives the buffer and refills it from v, or gives the palette byte and refills from $1000 below;
a write stores at v; both advance v by 1 or 32 modulo 2^15 (R527, R528). -/
def Obligations.DataPortReadsThroughTheBuffer : Prop :=
  ∀ (d : Byte) (s : State),
    let a := s.ppu.v.toNat % 0x4000
    let step : BitVec 15 := if s.ppu.ctrl.getLsbD 2 then 32 else 1
    let r := memRead 0x2007 s
    let under := ppuRead (BitVec.ofNat 16 (if 0x3F00 ≤ a then a - 0x1000 else a)) s
    r.2 = (if 0x3F00 ≤ a then (ppuRead (BitVec.ofNat 16 a) s).2 else s.ppu.dataBuffer) ∧
    r.1 = { under.1 with ppu := { s.ppu with dataBuffer := under.2, v := s.ppu.v + step } } ∧
    (let t := ppuWrite (BitVec.ofNat 16 a) d s
     memWrite 0x2007 d s = { t with ppu := { t.ppu with v := s.ppu.v + step } })

/-- The PPU address space: CHR through the mapper below $2000, the nametables through the mirroring mode with their
mirror at $3000, and the palette with its mirrors of $10, $14, $18 and $1C; the map of the five modes. A read changes no
byte and a write exactly the byte that a read of the same address reads: of `vram` or of the palette, all 8 bits; a
pattern write goes to the cartridge alone and is lost without one (R512 to R515). -/
def Obligations.PpuAddressSpace : Prop :=
  (∀ (a : Word) (s : State),
    let p := a.toNat % 0x4000
    let m := p % 0x20
    let o := (p - 0x2000) % 0x1000
    let inVram := nametableBase s.mirroring (o / 0x400) + o % 0x400
    let inPalette := if m = 0x10 ∨ m = 0x14 ∨ m = 0x18 ∨ m = 0x1C then m - 0x10 else m
    (p < 0x2000 → (ppuRead a s).2 =
      match s.cart with
      | none => 0
      | some c => c.chr.read (c.chrIndex (BitVec.ofNat 16 p))) ∧
    (0x2000 ≤ p → p < 0x3F00 → (ppuRead a s).2 = s.byteAt .vram inVram) ∧
    (0x3F00 ≤ p → ppuRead a s = (s, s.byteAt .palette inPalette)) ∧
    SameBytes s (ppuRead a s).1 ∧ (ppuRead a s).1 = { s with cart := (ppuRead a s).1.cart } ∧
    (∀ v : Byte,
      let t := ppuWrite a v s
      (p < 0x2000 → t = { s with cart := t.cart } ∧ (s.cart = none → t = s)) ∧
      (0x2000 ≤ p → p < 0x3F00 →
        t = { s with cart := (ppuRead a s).1.cart, ppu := { s.ppu with vram := t.ppu.vram } } ∧
        (s.MemoriesOk → SameBytesBut s t (some (.vram, inVram)) v)) ∧
      (0x3F00 ≤ p →
        t = { s with ppu := { s.ppu with palette := t.ppu.palette } } ∧
        (s.MemoriesOk → SameBytesBut s t (some (.palette, inPalette)) v)))) ∧
  (List.range 4).map (nametableBase .horizontal) = [0, 0, 0x400, 0x400] ∧
  (List.range 4).map (nametableBase .vertical) = [0, 0x400, 0, 0x400] ∧
  (List.range 4).map (nametableBase .oneScreenLower) = [0, 0, 0, 0] ∧
  (List.range 4).map (nametableBase .oneScreenUpper) = [0x400, 0x400, 0x400, 0x400] ∧
  (List.range 4).map (nametableBase .fourScreen) = [0, 0x400, 0x800, 0xC00]

/-- Vblank and NMI: the dot (241, 1) sets vblank and raises the NMI output when PPUCTRL bit 7 is 1; the dot (-1, 1)
clears vblank, sprite-0 hit and overflow; a PPUCTRL write that takes bit 7 from 0 to 1 while vblank is set raises
the NMI output, no other PPUCTRL write does, and bits 1-0 enter t's nametable bits (R525, R570 to R572). -/
def Obligations.VblankAndNmiOutput : Prop :=
  ∀ (d : Byte) (s : State),
    (s.ppu.scanline = 241 → s.ppu.dot = 1 →
      ppuDot s = { s with
        ppu := { s.ppu with vblank := true, nmiOut := s.ppu.nmiOut || s.ppu.ctrl.getLsbD 7, dot := 2 } }) ∧
    (s.ppu.scanline = -1 → s.ppu.dot = 1 →
      (ppuDot s).ppu.vblank = false ∧ (ppuDot s).ppu.sprite0Hit = false ∧
      (ppuDot s).ppu.spriteOverflow = false ∧ (ppuDot s).ppu.nmiOut = s.ppu.nmiOut) ∧
    (let t := memWrite 0x2000 d s
     t = { s with ppu := { s.ppu with ctrl := d, t := t.ppu.t, nmiOut := t.ppu.nmiOut } } ∧
     t.ppu.nmiOut = (s.ppu.nmiOut || (!s.ppu.ctrl.getLsbD 7 && d.getLsbD 7 && s.ppu.vblank)) ∧
     t.ppu.t.toNat = s.ppu.t.toNat - 1024 * (s.ppu.t.toNat / 1024 % 4) + 1024 * (d.toNat % 4))

/-! ## The dot state machine -/

/-- The position after a dot: one dot further, the next scanline after dot 340, the pre-render scanline after 260
with the frame completed and the parity flipped, and pre-render dot 339 skipped on odd frames with rendering on
(R500, R502). -/
def Obligations.DotsAdvanceThePosition : Prop :=
  ∀ s : State, s.PositionOk →
    let p := (ppuDot s).ppu
    let skip := s.ppu.scanline = -1 ∧ s.ppu.dot = 338 ∧ s.ppu.oddFrame = true ∧ s.ppu.rendering = true
    let last := s.ppu.dot = 340
    p.dot = (if skip then 340 else if last then 0 else s.ppu.dot + 1) ∧
    p.scanline = (if last then (if s.ppu.scanline = 260 then -1 else s.ppu.scanline + 1) else s.ppu.scanline) ∧
    p.frameComplete = (s.ppu.frameComplete || decide (last ∧ s.ppu.scanline = 260)) ∧
    p.oddFrame = (if last ∧ s.ppu.scanline = 260 then !s.ppu.oddFrame else s.ppu.oddFrame)

/-- With rendering off a dot fetches nothing and moves neither v nor t, the tile latches, the shifters or the sprite
list, and touches nothing outside the PPU: of the whole machine only the position, the three status flags, the NMI
output and the frame can change, the flags and the NMI output only at (-1, 1) and (241, 1). A visible dot writes its one
frame entry, the backdrop through the grayscale mask with the emphasis bits; no other dot writes the frame, and no
sprite-zero hit happens (R540, R564, R565, R570, R571). -/
def Obligations.RenderingOffShowsTheBackdrop : Prop :=
  ∀ s : State, s.ppu.rendering = false →
    let t := ppuDot s
    let clear := decide (s.ppu.scanline = -1 ∧ s.ppu.dot = 1)
    let vblankStarts := decide (s.ppu.scanline = 241 ∧ s.ppu.dot = 1)
    let visible := (0 ≤ s.ppu.scanline ∧ s.ppu.scanline ≤ 239) ∧ 1 ≤ s.ppu.dot ∧ s.ppu.dot ≤ 256
    let key := 256 * s.ppu.scanline.toNat + (s.ppu.dot - 1)
    let backdrop := (s.byteAt .palette 0).toNat % 64
    t = { s with ppu := { s.ppu with
      scanline := t.ppu.scanline, dot := t.ppu.dot, oddFrame := t.ppu.oddFrame
      frameComplete := t.ppu.frameComplete, frame := t.ppu.frame
      vblank := (s.ppu.vblank && !clear) || vblankStarts
      sprite0Hit := s.ppu.sprite0Hit && !clear
      spriteOverflow := s.ppu.spriteOverflow && !clear
      nmiOut := s.ppu.nmiOut || (vblankStarts && s.ppu.ctrl.getLsbD 7) } } ∧
    (¬ visible → t.ppu.frame = s.ppu.frame) ∧
    (visible → s.MemoriesOk →
      (cellRead Pixel.blank t.ppu.frame key).colour.toNat =
        (if s.ppu.mask.getLsbD 0 then backdrop / 16 * 16 else backdrop) ∧
      (cellRead Pixel.blank t.ppu.frame key).emphasis.toNat = s.ppu.mask.toNat / 32 ∧
      ∀ k, k ≠ key → cellRead Pixel.blank t.ppu.frame k = cellRead Pixel.blank s.ppu.frame k)

/-- One pixel: the background shows where PPUMASK shows it, by the shifter bit that fine X selects; the first sprite
slot with an opaque dot at x shows where PPUMASK shows sprites; an opaque background is covered only by a sprite with
attribute bit 5 = 0; the palette entry goes through the grayscale mask and takes the emphasis bits; sprite-zero hit is
set exactly where both layers are opaque, slot 0 is first and holds sprite 0, and x is not 255; no other frame entry
and no other PPU state changes (R560 to R564). -/
def Obligations.PixelsComposeTheLayers : Prop :=
  ∀ (x line : Nat) (p : Ppu), x < 256 → cellsWf Pixel.blank p.frame = true →
    let q := p.renderPixel x line
    let bgOn := p.mask.getLsbD 3 && (p.mask.getLsbD 1 || decide (8 ≤ x))
    let spOn := p.mask.getLsbD 4 && (p.mask.getLsbD 2 || decide (8 ≤ x))
    let two := fun (hi lo : Bool) => 2 * hi.toNat + lo.toNat
    let b := 15 - p.x.toNat
    let bg := if bgOn then two (p.shPatHi.getLsbD b) (p.shPatLo.getLsbD b) else 0
    let bgEntry := 4 * two (p.shAtHi.getLsbD b) (p.shAtLo.getLsbD b) + bg
    let dotOf := fun (i : Nat) =>
      let slot := p.slot i
      let left := slot.sprite.x.toNat
      if left ≤ x ∧ x < left + 8 then two (slot.hi.getLsbD (left + 7 - x)) (slot.lo.getLsbD (left + 7 - x)) else 0
    let first := if spOn then (List.range p.sprCount).find? (fun i => decide (dotOf i ≠ 0)) else none
    let entry := match first with
      | none => if bg = 0 then 0 else bgEntry
      | some i =>
        let attr := (p.slot i).sprite.attr
        if bg ≠ 0 ∧ attr.getLsbD 5 = true then bgEntry else 16 + 4 * (attr.toNat % 4) + dotOf i
    let colour := (p.palette.read entry).toNat % 64
    let pixel := cellRead Pixel.blank q.frame (256 * line + x)
    q = { p with sprite0Hit := q.sprite0Hit, frame := q.frame } ∧
    (q.sprite0Hit = true ↔
      p.sprite0Hit = true ∨ (bg ≠ 0 ∧ first = some 0 ∧ p.spr0InLine = true ∧ x ≠ 255)) ∧
    pixel.colour.toNat = (if p.mask.getLsbD 0 then colour / 16 * 16 else colour) ∧
    pixel.emphasis.toNat = p.mask.toNat / 32 ∧
    (∀ k, k ≠ 256 * line + x → cellRead Pixel.blank q.frame k = cellRead Pixel.blank p.frame k)

/-- The scroll increments and copies, field by field of v: coarse X wraps into the horizontal nametable bit; fine Y
wraps into coarse Y, which wraps at 29 with and at 31 without a switch of the vertical nametable bit; the copies
take the horizontal or the vertical fields of t (R542 to R545). -/
def Obligations.ScrollIncrementsAndCopies : Prop :=
  ∀ v t : BitVec 15,
    let nt := fun (w : BitVec 15) => w.extractLsb' 10 2
    (coarseX (incX v) = coarseX v + 1 ∧ coarseY (incX v) = coarseY v ∧ fineY (incX v) = fineY v ∧
      nt (incX v) = if coarseX v = 31 then nt v ^^^ 1 else nt v) ∧
    (coarseX (incY v) = coarseX v ∧ fineY (incY v) = fineY v + 1 ∧
      coarseY (incY v) = (if fineY v = 7 then (if coarseY v = 29 then 0 else coarseY v + 1) else coarseY v) ∧
      nt (incY v) = if fineY v = 7 ∧ coarseY v = 29 then nt v ^^^ 2 else nt v) ∧
    (coarseX (copyX v t) = coarseX t ∧ coarseY (copyX v t) = coarseY v ∧ fineY (copyX v t) = fineY v ∧
      (nt (copyX v t)).getLsbD 0 = (nt t).getLsbD 0 ∧ (nt (copyX v t)).getLsbD 1 = (nt v).getLsbD 1) ∧
    (coarseX (copyY v t) = coarseX v ∧ coarseY (copyY v t) = coarseY t ∧ fineY (copyY v t) = fineY t ∧
      (nt (copyY v t)).getLsbD 0 = (nt v).getLsbD 0 ∧ (nt (copyY v t)).getLsbD 1 = (nt t).getLsbD 1)

/-- Sprite evaluation: the first eight sprites in OAM order whose rows contain the line are selected, in order; the
overflow flag is set exactly when a ninth matches; sprite 0 is remembered exactly when it matches; no other PPU
state changes (R550). -/
def Obligations.SpriteEvaluationSelectsTheFirstEight : Prop :=
  ∀ (line : Int) (p : Ppu),
    let h : Int := if p.ctrl.getLsbD 5 then 16 else 8
    let hits := (List.range 64).filter fun n =>
      decide (0 ≤ line - ((p.oam.read (4 * n)).toNat : Int) ∧ line - ((p.oam.read (4 * n)).toNat : Int) < h)
    let q := p.evaluateSprites line
    q.sprCount = min 8 hits.length ∧ q.spriteOverflow = (p.spriteOverflow || decide (8 < hits.length)) ∧
    q.spr0InLine = decide (0 ∈ hits) ∧
    (∀ i n : Nat, i < 8 → hits[i]? = some n → (q.slot i).sprite =
      { y := p.oam.read (4 * n), tile := p.oam.read (4 * n + 1), attr := p.oam.read (4 * n + 2),
        x := p.oam.read (4 * n + 3) }) ∧
    q = { p with
      sprCount := q.sprCount, spriteOverflow := q.spriteOverflow, spr0InLine := q.spr0InLine, slots := q.slots }

/-! ## APU -/

/-- The $4015 read gives the length counters, the DMC bytes and the two IRQ flags and clears only the frame IRQ; the
$4015 write enables or silences each channel, starts or stops the DMC sample and clears the DMC IRQ, and changes nothing
else. Every other APU register write sets exactly its fields: the control, sweep and timer fields of the pulses, the
triangle's and the noise channel's, the DMC's, and the frame counter's; a length write loads the table entry of d[7:3]
into an enabled channel and is lost in a disabled one; $4009 and $400D are ignored
(R600 to R608, R610 to R612, R630, R662). -/
def Obligations.ApuRegisterReadsAndWrites : Prop :=
  (∀ s : State,
    let r := memRead 0x4015 s
    r.2.toNat = (if s.apu.pulse1.length = 0 then 0 else 1) + (if s.apu.pulse2.length = 0 then 0 else 2) +
      (if s.apu.tri.length = 0 then 0 else 4) + (if s.apu.noise.length = 0 then 0 else 8) +
      (if s.apu.dmc.bytesLeft = 0 then 0 else 16) + 64 * s.apu.frameIrq.toNat + 128 * s.apu.dmcIrq.toNat ∧
    r.1 = { s with apu := { s.apu with frameIrq := false } }) ∧
  (∀ (d : Byte) (s : State),
    let t := (memWrite 0x4015 d s).apu
    let dmc := s.apu.dmc
    memWrite 0x4015 d s = { s with apu := { s.apu with
      pulse1 := { s.apu.pulse1 with enabled := d.getLsbD 0, length := t.pulse1.length }
      pulse2 := { s.apu.pulse2 with enabled := d.getLsbD 1, length := t.pulse2.length }
      tri := { s.apu.tri with enabled := d.getLsbD 2, length := t.tri.length }
      noise := { s.apu.noise with enabled := d.getLsbD 3, length := t.noise.length }
      dmc := { dmc with bytesLeft := t.dmc.bytesLeft, curAddr := t.dmc.curAddr }
      dmcIrq := false } } ∧
    t.pulse1.length = (if d.getLsbD 0 then s.apu.pulse1.length else 0) ∧
    t.pulse2.length = (if d.getLsbD 1 then s.apu.pulse2.length else 0) ∧
    t.tri.length = (if d.getLsbD 2 then s.apu.tri.length else 0) ∧
    t.noise.length = (if d.getLsbD 3 then s.apu.noise.length else 0) ∧
    t.dmc.bytesLeft.toNat =
      (if d.getLsbD 4 = false then 0 else if s.apu.dmc.bytesLeft = 0 then 16 * s.apu.dmc.lenReg.toNat + 1
       else s.apu.dmc.bytesLeft.toNat) ∧
    t.dmc.curAddr.toNat = (if d.getLsbD 4 = true ∧ dmc.bytesLeft = 0 then 0xC000 + 64 * dmc.addrReg.toNat
      else dmc.curAddr.toNat)) ∧
  (∀ (d : Byte) (s : State),
    let n := d.toNat
    let on := fun (a : Apu) => { s with apu := a }
    let lengths : List Nat := [10, 254, 20, 2, 40, 4, 80, 6, 160, 8, 60, 10, 14, 12, 26, 14,
      12, 16, 24, 18, 48, 20, 96, 22, 192, 24, 72, 26, 16, 28, 32, 30]
    let loaded := fun (enabled : Bool) (old : Byte) => if enabled then BitVec.ofNat 8 (lengths.getD (n / 8) 0) else old
    let low := fun (p : BitVec 11) => BitVec.ofNat 11 (p.toNat / 256 * 256 + n)
    let high := fun (p : BitVec 11) => BitVec.ofNat 11 (n % 8 * 256 + p.toNat % 256)
    let control := fun (p : Pulse) => { p with
      duty := BitVec.ofNat 2 (n / 64), halt := d.getLsbD 5, constVol := d.getLsbD 4, vol := BitVec.ofNat 4 (n % 16) }
    let sweep := fun (p : Pulse) => { p with
      sweepEn := d.getLsbD 7, sweepPeriod := BitVec.ofNat 3 (n / 16 % 8), sweepNegate := d.getLsbD 3
      sweepShift := BitVec.ofNat 3 (n % 8), sweepReload := true }
    let timer := fun (p : Pulse) => { p with timerPeriod := low p.timerPeriod }
    let length := fun (p : Pulse) => { p with
      timerPeriod := high p.timerPeriod, length := loaded p.enabled p.length, envStart := true, dutyStep := 0 }
    let p1 := s.apu.pulse1
    let p2 := s.apu.pulse2
    let tri := s.apu.tri
    let noise := s.apu.noise
    let dmc := s.apu.dmc
    memWrite 0x4000 d s = on { s.apu with pulse1 := control p1 } ∧
    memWrite 0x4001 d s = on { s.apu with pulse1 := sweep p1 } ∧
    memWrite 0x4002 d s = on { s.apu with pulse1 := timer p1 } ∧
    memWrite 0x4003 d s = on { s.apu with pulse1 := length p1 } ∧
    memWrite 0x4004 d s = on { s.apu with pulse2 := control p2 } ∧
    memWrite 0x4005 d s = on { s.apu with pulse2 := sweep p2 } ∧
    memWrite 0x4006 d s = on { s.apu with pulse2 := timer p2 } ∧
    memWrite 0x4007 d s = on { s.apu with pulse2 := length p2 } ∧
    memWrite 0x4008 d s = on { s.apu with
      tri := { tri with control := d.getLsbD 7, linReloadVal := BitVec.ofNat 7 (n % 128) } } ∧
    memWrite 0x4009 d s = s ∧
    memWrite 0x400A d s = on { s.apu with tri := { tri with timerPeriod := low tri.timerPeriod } } ∧
    memWrite 0x400B d s = on { s.apu with tri := { tri with
      timerPeriod := high tri.timerPeriod, length := loaded tri.enabled tri.length, linReload := true } } ∧
    memWrite 0x400C d s = on { s.apu with noise := { noise with
      halt := d.getLsbD 5, constVol := d.getLsbD 4, vol := BitVec.ofNat 4 (n % 16) } } ∧
    memWrite 0x400D d s = s ∧
    memWrite 0x400E d s = on { s.apu with
      noise := { noise with mode := d.getLsbD 7, periodIdx := BitVec.ofNat 4 (n % 16) } } ∧
    memWrite 0x400F d s = on { s.apu with
      noise := { noise with length := loaded noise.enabled noise.length, envStart := true } } ∧
    memWrite 0x4010 d s = on { s.apu with
      dmc := { dmc with irqEn := d.getLsbD 7, loop := d.getLsbD 6, rateIdx := BitVec.ofNat 4 (n % 16) }
      dmcIrq := s.apu.dmcIrq && d.getLsbD 7 } ∧
    memWrite 0x4011 d s = on { s.apu with dmc := { dmc with level := BitVec.ofNat 7 (n % 128) } } ∧
    memWrite 0x4012 d s = on { s.apu with dmc := { dmc with addrReg := d } } ∧
    memWrite 0x4013 d s = on { s.apu with dmc := { dmc with lenReg := d } } ∧
    (let a := { s.apu with
       fiveStep := d.getLsbD 7, irqInhibit := d.getLsbD 6, frameIrq := s.apu.frameIrq && !d.getLsbD 6, fc := 0 }
     let counted := fun (halt : Bool) (len : Byte) => if halt = true ∨ len = 0 then len else len - 1
     memWrite 0x4017 d s = on (if d.getLsbD 7 then
         { a with
           pulse1 := p1.clockHalf false, pulse2 := p2.clockHalf true
           tri := { tri with length := counted tri.control tri.length }
           noise := { noise with length := counted noise.halt noise.length } }
       else a)))

/-- The frame sequencer: at the step times of the mode the envelopes of both pulses and the noise channel and the
triangle's linear counter are clocked, at the second and the last step then also the length counters of the four
channels and the sweeps of both pulses; the 4-step mode raises the frame IRQ at its last step unless inhibited, the
5-step mode never; the sequence restarts after its last step; no other cycle clocks anything. The clocks of one
envelope, one pulse's length and sweep and the linear counter are written out in
ApuUnitsClockInIntegerArithmetic (R621 to R624, R631, R632). -/
def Obligations.FrameSequencerSteps : Prop :=
  ∀ (scale : FrameScale) (a : Apu),
    let now := a.fc + 1
    let times : List Nat := match scale with
      | .one => [3729, 7457, 11186, 14915, 18641]
      | .two => [7457, 14913, 22371, 29829, 37281]
    let at5 := fun (k : Nat) => decide (times[k]? = some now)
    let quarter := at5 0 || at5 1 || at5 2 || (if a.fiveStep then at5 4 else at5 3)
    let half := at5 1 || (if a.fiveStep then at5 4 else at5 3)
    let last := if a.fiveStep then at5 4 else at5 3
    let pulse := fun (q : Pulse) =>
      let e := envelopeClock q.envStart q.halt q.vol q.envDiv q.envDecay
      { q with envStart := false, envDiv := e.1, envDecay := e.2 }
    let noise := fun (q : Noise) =>
      let e := envelopeClock q.envStart q.halt q.vol q.envDiv q.envDecay
      { q with envStart := false, envDiv := e.1, envDecay := e.2 }
    let counted := fun (halt : Bool) (length : Byte) => if halt = true ∨ length = 0 then length else length - 1
    let b : Apu := if quarter then
        { a with
          pulse1 := pulse a.pulse1, pulse2 := pulse a.pulse2, noise := noise a.noise, tri := a.tri.clockLinear }
      else a
    let c : Apu := if half then
        { b with
          pulse1 := b.pulse1.clockHalf false, pulse2 := b.pulse2.clockHalf true
          tri := { b.tri with length := counted b.tri.control b.tri.length }
          noise := { b.noise with length := counted b.noise.halt b.noise.length } }
      else b
    a.frameSequencer scale =
      { c with
        fc := if last then 0 else now
        frameIrq := a.frameIrq || (last && !a.fiveStep && !a.irqInhibit) }

/-- The clocks of the APU's units in integer arithmetic: envelopes; the sweep with one's-complement negation in pulse 1
and two's-complement negation in pulse 2, which never leaves the 11 bits; the duty sequencer; the triangle's linear
counter and sequencer; the noise shift register; the DMC's timer, output level and output cycle
(R631 to R634, R640, R641, R650, R651, R660, R661). -/
def Obligations.ApuUnitsClockInIntegerArithmetic : Prop :=
  (∀ (start loop : Bool) (vol div decay : BitVec 4),
    let e := envelopeClock start loop vol div decay
    e.1.toNat = (if start = true ∨ div = 0 then vol.toNat else div.toNat - 1) ∧
    e.2.toNat = (if start = true then 15 else if div ≠ 0 then decay.toNat
      else if decay = 0 then (if loop = true then 15 else 0) else decay.toNat - 1)) ∧
  (∀ (second : Bool) (p : Pulse),
    let q := p.clockHalf second
    let period : Int := p.timerPeriod.toNat
    let change : Int := (p.timerPeriod.toNat / 2 ^ p.sweepShift.toNat : Nat)
    let target := if p.sweepNegate = false then period + change
      else if second = true then period - change else period - change - 1
    let moves := p.sweepDiv = 0 ∧ p.sweepEn = true ∧ p.sweepShift ≠ 0 ∧ 8 ≤ period ∧ target ≤ 2047
    (q.timerPeriod.toNat : Int) = (if moves then target else period) ∧
    q.sweepDiv.toNat = (if p.sweepDiv = 0 ∨ p.sweepReload = true then p.sweepPeriod.toNat
      else p.sweepDiv.toNat - 1) ∧
    q.length.toNat = (if p.halt = true then p.length.toNat else p.length.toNat - 1) ∧
    q = { p with timerPeriod := q.timerPeriod, sweepDiv := q.sweepDiv, sweepReload := false, length := q.length }) ∧
  (∀ p : Pulse,
    p.clockTimer = (if p.timer = 0 then { p with timer := p.timerPeriod, dutyStep := p.dutyStep + 1 }
      else { p with timer := p.timer - 1 })) ∧
  (∀ t : Triangle,
    let q := t.clockTimer
    q.timer.toNat = (if t.timer = 0 then t.timerPeriod.toNat else t.timer.toNat - 1) ∧
    q.step.toNat = (if t.timer = 0 ∧ t.linear ≠ 0 ∧ t.length ≠ 0 ∧ 2 ≤ t.timerPeriod.toNat
      then (t.step.toNat + 1) % 32 else t.step.toNat) ∧
    q = { t with timer := q.timer, step := q.step } ∧
    (let l := t.clockLinear
     l.linear.toNat = (if t.linReload = true then t.linReloadVal.toNat else t.linear.toNat - 1) ∧
     (l.linReload = true ↔ t.linReload = true ∧ t.control = true) ∧
     l = { t with linear := l.linear, linReload := l.linReload })) ∧
  (∀ n : Noise,
    let q := n.clockTimer
    let tap := n.lfsr.toNat / 2 ^ (if n.mode = true then 6 else 1)
    let feedback := (n.lfsr.toNat + tap) % 2
    let periods : List Nat := [4, 8, 16, 32, 64, 96, 128, 160, 202, 254, 380, 508, 762, 1016, 2034, 4068]
    (if n.timer = 0 then periods[n.periodIdx.toNat]? = some (q.timer.toNat + 1) ∧
        q.lfsr.toNat = n.lfsr.toNat / 2 + 16384 * feedback
     else q.timer.toNat = n.timer.toNat - 1 ∧ q.lfsr = n.lfsr) ∧
    q = { n with timer := q.timer, lfsr := q.lfsr } ∧ (n.lfsr ≠ 0 → q.lfsr ≠ 0)) ∧
  (∀ c : Dmc,
    let q := c.clockTimer
    let up := c.shift.getLsbD 0
    let level := c.level.toNat
    let left := c.bitsLeft.toNat - 1
    let rates : List Nat := [428, 380, 340, 320, 286, 254, 226, 214, 190, 160, 142, 128, 106, 84, 72, 54]
    let cycleEnds := decide (c.timer = 0 ∧ left = 0)
    q.level.toNat = (if c.timer ≠ 0 ∨ c.silence = true then level
      else if up = true then (if level ≤ 125 then level + 2 else level)
      else (if 2 ≤ level then level - 2 else level)) ∧
    (if c.timer = 0 then rates[c.rateIdx.toNat]? = some (q.timer.toNat + 1) else q.timer.toNat = c.timer.toNat - 1) ∧
    q.bitsLeft.toNat = (if c.timer ≠ 0 then c.bitsLeft.toNat else if left = 0 then 8 else left) ∧
    q.shift.toNat = (if c.timer ≠ 0 then c.shift.toNat
      else if cycleEnds && c.bufferFull then c.buffer.toNat else c.shift.toNat / 2) ∧
    q = { c with
      level := q.level, timer := q.timer, bitsLeft := q.bitsLeft, shift := q.shift
      silence := if cycleEnds then !c.bufferFull else c.silence
      bufferFull := c.bufferFull && !cycleEnds })

/-- The channel outputs lie in 0..15, a silenced channel gives 0, and the mixer's output lies in [0, 1) and is 0 when
every channel gives 0 (R636, R642, R652, R668). -/
def Obligations.ApuOutputsStayInRange : Prop :=
  (∀ (mute second : Bool) (p : Pulse), p.output mute second ≤ 15 ∧
    (p.timerPeriod.toNat < 8 ∨ p.length = 0 ∨ dutyBit p.duty p.dutyStep = false → p.output mute second = 0)) ∧
  (∀ t : Triangle, t.output = if t.step.toNat < 16 then 15 - t.step.toNat else t.step.toNat - 16) ∧
  (∀ n : Noise, n.output ≤ 15 ∧ (n.length = 0 ∨ n.lfsr.getLsbD 0 = true → n.output = 0)) ∧
  (∀ s : State, 0 ≤ s.mix ∧ s.mix < 1) ∧ mixOf 0 0 0 0 0 = 0

/-! ## Mappers -/

/-- MMC1's serial port: from an empty shift register five writes with bit 7 clear put their bits, the first the
least significant, into the register that the fifth write's address selects, and leave the shift register empty;
fewer change no register; a write with bit 7 set empties the shift register and sets control bits 3 and 2 (R720). -/
def Obligations.Mmc1SerialPort : Prop :=
  (∀ (m : Mmc1) (a1 a2 a3 a4 a5 : Word) (v1 v2 v3 v4 v5 : Byte),
    m.shift = 0 → m.shiftCount = 0 → v1.getLsbD 7 = false → v2.getLsbD 7 = false → v3.getLsbD 7 = false →
    v4.getLsbD 7 = false → v5.getLsbD 7 = false →
    let after4 := (((m.write a1 v1).write a2 v2).write a3 v3).write a4 v4
    let bits : BitVec 5 := BitVec.ofNat 5 ((v1.getLsbD 0).toNat + 2 * (v2.getLsbD 0).toNat +
      4 * (v3.getLsbD 0).toNat + 8 * (v4.getLsbD 0).toNat + 16 * (v5.getLsbD 0).toNat)
    after4 = { m with shift := after4.shift, shiftCount := 4 } ∧
    after4.write a5 v5 =
      (if a5.toNat / 0x2000 % 4 = 0 then { m with control := bits }
       else if a5.toNat / 0x2000 % 4 = 1 then { m with chr0 := bits }
       else if a5.toNat / 0x2000 % 4 = 2 then { m with chr1 := bits }
       else { m with prg := bits })) ∧
  (∀ (m : Mmc1) (a : Word) (v : Byte), v.getLsbD 7 = true →
    m.write a v = { m with shift := 0, shiftCount := 0, control := m.control ||| 12 })

/-- PRG banking for every mapper at every address from $8000 on, bank numbers modulo the bank count: NROM and CNROM
mirror the whole ROM; UxROM switches 16 KiB at $8000 and fixes the last bank at $C000; MMC1 follows its four PRG
modes; MMC3 places R6, R7, the last bank but one and the last bank by its PRG mode
(R701, R710, R723, R730, R735, R741). -/
def Obligations.PrgBanksReadTheirRom : Prop :=
  ∀ (s : State) (c : Cart) (a : Word), s.cart = some c → 1 ≤ c.prgBanks → 0x8000 ≤ a.toNat →
    let n16 := c.prgBanks
    let n8 := 2 * c.prgBanks
    let upper := decide (0xC000 ≤ a.toNat)
    let slot := a.toNat / 0x2000 % 4
    let whole := (memRead a s).2 = s.byteAt .prgRom ((a.toNat - 0x8000) % (16384 * n16))
    let in16 := fun (bank : Nat) => (memRead a s).2 = s.byteAt .prgRom (bank % n16 * 16384 + a.toNat % 16384)
    let in8 := fun (bank : Nat) => (memRead a s).2 = s.byteAt .prgRom (bank % n8 * 8192 + a.toNat % 8192)
    (c.mapper = .nrom → whole) ∧ (∀ bank, c.mapper = .cnrom bank → whole) ∧
    (∀ bank, c.mapper = .uxrom bank → in16 (if upper then n16 - 1 else bank.toNat)) ∧
    (∀ m : Mmc1, c.mapper = .mmc1 m →
      let mode := m.control.toNat / 4 % 4
      let bank := m.prg.toNat % 16
      in16 (if mode = 3 then (if upper then n16 - 1 else bank) else if mode = 2 then (if upper then bank else 0)
        else bank / 2 * 2 + upper.toNat)) ∧
    (∀ m : Mmc3, c.mapper = .mmc3 m →
      let swapped := m.bankSelect.getLsbD 6
      in8 (if slot = 0 then (if swapped then n8 - 2 else m.r[6].toNat) else if slot = 1 then m.r[7].toNat
        else if slot = 2 then (if swapped then m.r[6].toNat else n8 - 2) else n8 - 1))

/-- CHR banking for every mapper at every pattern address, bank numbers modulo the bank count; a write stores there
exactly when CHR is RAM and changes no other byte; the mirroring mode is the header's, or MMC1's or MMC3's own, and
four-screen wiring wins (R701, R703, R704, R712, R721, R722, R724, R731, R735, R742, R745). -/
def Obligations.ChrBanksAndMirroring : Prop :=
  ∀ (s : State) (c : Cart), s.cart = some c →
    (∀ (a : Word) (v : Byte), 1 ≤ c.chrBanks → a.toNat < 0x2000 →
      let k := a.toNat / 0x1000
      let index : Nat := match c.mapper with
        | .nrom | .uxrom _ => a.toNat
        | .cnrom bank => bank.toNat % c.chrBanks * 8192 + a.toNat
        | .mmc1 m =>
          let bank := if m.control.getLsbD 4 then (if k = 1 then m.chr1.toNat else m.chr0.toNat)
            else m.chr0.toNat / 2 * 2 + k
          bank % (2 * c.chrBanks) * 4096 + a.toNat % 4096
        | .mmc3 m =>
          let slot := if m.bankSelect.getLsbD 7 then (a.toNat / 0x400 + 4) % 8 else a.toNat / 0x400
          let bank := if slot = 0 ∨ slot = 1 then m.r[0].toNat / 2 * 2 + slot
            else if slot = 2 ∨ slot = 3 then m.r[1].toNat / 2 * 2 + (slot - 2)
            else if slot = 4 then m.r[2].toNat else if slot = 5 then m.r[3].toNat
            else if slot = 6 then m.r[4].toNat else m.r[5].toNat
          bank % (8 * c.chrBanks) * 1024 + a.toNat % 1024
      (ppuRead a s).2 = s.byteAt .chr index ∧ SameBytes s (ppuRead a s).1 ∧
      (s.MemoriesOk → SameBytesBut s (ppuWrite a v s) (if c.chrIsRam then some (.chr, index) else none) v)) ∧
    s.mirroring =
      (if c.header = .fourScreen then .fourScreen
       else match c.mapper with
        | .mmc1 m =>
          let mode := m.control.toNat % 4
          if mode = 0 then .oneScreenLower else if mode = 1 then .oneScreenUpper
          else if mode = 2 then .vertical else .horizontal
        | .mmc3 m => if m.mirroring then .horizontal else .vertical
        | .nrom | .uxrom _ | .cnrom _ => if c.header = .vertical then .vertical else .horizontal)

/-- MMC3's scanline counter: an observed A12 rise after at least the debounce of low CPU cycles clocks it, no other
access does; a clock reloads from the latch at 0 or on request, else counts down; reaching 0 with IRQs enabled
raises the IRQ; a $E000 write disables and acknowledges (R705, R740, R746 to R748). -/
def Obligations.Mmc3ScanlineCounter : Prop :=
  ∀ (debounce : Nat) (m : Mmc3) (a : Word) (v : Byte),
    let clocked := a.getLsbD 12 && (!m.a12Last && decide (debounce ≤ m.a12Low))
    let counter := if m.irqCounter = 0 ∨ m.irqReload = true then m.irqLatch else m.irqCounter - 1
    m.observe debounce a =
      { m with
        a12Last := a.getLsbD 12
        a12Low := if a.getLsbD 12 then 0 else m.a12Low
        irqCounter := if clocked then counter else m.irqCounter
        irqReload := if clocked then false else m.irqReload
        irqPending := m.irqPending || (clocked && (decide (counter = 0) && m.irqEnable)) } ∧
    (0xE000 ≤ a.toNat → a.toNat % 2 = 0 → m.write a v = { m with irqEnable := false, irqPending := false }) ∧
    (Mapper.mmc3 m).clock = .mmc3 { m with a12Low := if m.a12Last then m.a12Low else m.a12Low + 1 } ∧
    (Mapper.mmc3 m).irq = m.irqPending

/-! ## Reset and loading -/

/-- The machine after a reset of any state: A, X and Y 0, SP $FD, P $24, `cycles` 7, `total_cycles` 0, no interrupt
pending, PC from $FFFC/$FFFD, `dot_count` 0, every PPU and APU register at its written-out reset value; the memories,
the mapper, the frame, the buttons and the parameters are kept. After power-on the same, but the memories hold the
given power-on contents, the frame is blank, the buttons are released and the mapper registers are those of power-on,
through which the reset vector is read. `State.reset` is a fixed point of reset; that it holds no cartridge, so that
its PC is 0, is the model's choice (notes/assumptions/4.md), and that power-on releases the buttons is read from the
table of R804 (notes/assumptions/18.md) (R800, R801, R804, R805). -/
def Obligations.ResetLeavesTheStatedValues : Prop :=
  let cpuAt := fun (s : State) =>
    ({ a := 0, x := 0, y := 0, sp := 0xFD, p := 0x24
       pc := BitVec.ofNat 16 (256 * (memRead 0xFFFD s).2.toNat + (memRead 0xFFFC s).2.toNat)
       opcode := 0, fetched := 0, addrAbs := 0, addrRel := 0, cycles := 7, nmiPending := false
       irqPending := false, totalCycles := 0, dmaStall := 0 } : Cpu)
  let slot : SpriteSlot := { sprite := { y := 0, tile := 0, attr := 0, x := 0 }, lo := 0, hi := 0 }
  let ppuWith := fun (oam vram palette : Memory) (frame : List (Nat × Pixel)) =>
    ({ ctrl := 0, mask := 0, vblank := false, sprite0Hit := false, spriteOverflow := false, oamaddr := 0
       oam := oam, v := 0, t := 0, x := 0, w := false, dataBuffer := 0, vram := vram, palette := palette
       scanline := 0, dot := 0, oddFrame := false, frameComplete := false, nmiOut := false
       bgNt := 0, bgAt := 0, bgLo := 0, bgHi := 0, shPatLo := 0, shPatHi := 0, shAtLo := 0, shAtHi := 0
       sprCount := 0, slots := Vector.replicate 8 slot, spr0InLine := false, frame := frame } : Ppu)
  let pulse : Pulse :=
    { enabled := false, duty := 0, halt := false, constVol := false, vol := 0, sweepEn := false, sweepPeriod := 0
      sweepNegate := false, sweepShift := 0, sweepReload := false, sweepDiv := 0, timerPeriod := 0, timer := 0
      dutyStep := 0, length := 0, envStart := false, envDiv := 0, envDecay := 0 }
  let apu : Apu :=
    { apuCycles := 0, fiveStep := false, irqInhibit := false, frameIrq := false, dmcIrq := false, fc := 0
      pulse1 := pulse, pulse2 := pulse
      tri :=
        { enabled := false, control := false, linReloadVal := 0, linear := 0, linReload := false, timerPeriod := 0
          timer := 0, step := 0, length := 0 }
      noise :=
        { enabled := false, halt := false, constVol := false, vol := 0, mode := false, periodIdx := 0, timer := 0
          lfsr := 1, length := 0, envStart := false, envDiv := 0, envDecay := 0 }
      dmc :=
        { irqEn := false, loop := false, rateIdx := 0, timer := 0, level := 0, addrReg := 0, lenReg := 0, curAddr := 0
          bytesLeft := 0, buffer := 0, bufferFull := false, shift := 0, bitsLeft := 0, silence := true } }
  let port := fun (buttons : Byte) => ({ buttons := buttons, latch := 0, index := 0 } : Port)
  (∀ s : State, s.hostReset =
    { cpu := cpuAt s, ppu := ppuWith s.ppu.oam s.ppu.vram s.ppu.palette s.ppu.frame, apu := apu
      ctrl := { port0 := port s.ctrl.port0.buttons, port1 := port s.ctrl.port1.buttons, strobe := false }
      ram := s.ram, cart := s.cart, dotCount := 0, config := s.config }) ∧
  (∀ (m : PowerOnMem) (s : State),
    let t := s.powerOn m
    t = { cpu := cpuAt t, ppu := ppuWith m.oam m.vram m.palette [], apu := apu
          ctrl := { port0 := port 0, port1 := port 0, strobe := false }
          ram := m.ram, cart := t.cart, dotCount := 0, config := s.config } ∧
    (s.cart = none → t.cart = none) ∧
    (∀ c, s.cart = some c →
      let mapper : Mapper := match c.mapper with
        | .nrom => .nrom
        | .mmc1 _ => .mmc1 { shift := 0, shiftCount := 0, control := 0x0C, chr0 := 0, chr1 := 0, prg := 0 }
        | .uxrom _ => .uxrom 0
        | .cnrom _ => .cnrom 0
        | .mmc3 _ => .mmc3
          { bankSelect := 0, r := Vector.replicate 8 0, mirroring := false, irqLatch := 0, irqCounter := 0
            irqReload := false, irqEnable := false, irqPending := false, a12Last := false, a12Low := 0 }
      t.cart = some { c with
        prgRam := m.prgRam, chr := if c.chrIsRam then m.chrRam else c.chr, mapper := mapper })) ∧
  State.reset.hostReset = State.reset

/-- Loading a cartridge: a supported mapper id and the sizes of D55 install it with power-on mapper registers and
its PRG-ROM and CHR bytes, and change nothing else; any other image is refused (R482, R755, D55, D58). -/
def Obligations.LoadAcceptsExactlyTheSupportedImages : Prop :=
  ∀ (m : PowerOnMem) (image : CartImage) (s : State),
    ((∃ t, s.loadCartridge m image = .next t) ↔
      image.mapperId ≤ 4 ∧ image.prgRom.length % 16384 = 0 ∧ image.prgRom.length ≠ 0 ∧
        image.chrRom.length % 8192 = 0) ∧
    (∀ t, s.loadCartridge m image = .next t →
      ∃ c, t = { s with cart := some c } ∧ c.mapper.id = image.mapperId ∧ c.mapper.powerOn = c.mapper ∧
        c.prgBanks = image.prgRom.length / 16384 ∧ c.prgRam = m.prgRam ∧ c.header = image.mirroring ∧
        (∀ k, c.prgRom.read k = image.prgRom.getD k 0) ∧
        (image.chrRom = [] → c.chrIsRam = true ∧ c.chrBanks = 1 ∧ c.chr = m.chrRam) ∧
        (image.chrRom ≠ [] → c.chrIsRam = false ∧ c.chrBanks = image.chrRom.length / 8192 ∧
          ∀ k, c.chr.read k = image.chrRom.getD k 0) ∧
        (m.prgRam.wf = true → m.prgRam.below 8192 = true → m.chrRam.wf = true → m.chrRam.below 8192 = true →
          c.MemoriesOk))

/-! ## Invariants of every step -/

/-- No instruction and no step ever changes a bit of P that reads as a constant: U stays 1 and B stays 0
(R34, R35, R180). -/
def Obligations.EveryStepKeepsTheConstantStatusBits : Prop :=
  ∀ s t : State, s.StatusOk → step s = .next t → t.StatusOk

/-- Every step keeps every memory in canonical form and within its size: no instruction, DMA, dot or clock reaches
beyond a memory (R45, R49, R53, R57, R71, R103, R510, R701). The position is a premise, for the frame's cells. -/
def Obligations.EveryStepKeepsTheMemories : Prop :=
  ∀ s t : State, s.MemoriesOk → s.PositionOk → step s = .next t → t.MemoriesOk ∧ t.PositionOk

/-- Every step keeps the counters in their ranges, never lets the noise shift register reach 0 and leaves no DMA stall
behind (R43, R56, R70, R72, R460, R621, R651, R661). -/
def Obligations.EveryStepKeepsTheCounters : Prop :=
  ∀ s t : State, s.CountersOk → step s = .next t → t.CountersOk

/-- No step changes the configuration: the ROMs, the sizes, the mapper id, the header and the parameters
(R75, R107, R805, R829). -/
def Obligations.NoStepChangesTheConfiguration : Prop :=
  ∀ s t : State, step s = .next t → SameConfiguration s t

/-- The reset state meets the invariants. -/
def Obligations.ResetMeetsTheInvariants : Prop :=
  State.reset.StatusOk ∧ State.reset.PositionOk ∧ State.reset.MemoriesOk ∧ State.reset.CountersOk

end Statements
end

