-- ==== Sys2Proof/Laws/Memory.lean ====
section
/-! SUPPORT. The laws of the sparse memories: a read after a write, the cells that a write leaves alone, and
that a write keeps the canonical form and the bound of a memory. -/

namespace Sys2Proof.Machine

variable {α : Type} [DecidableEq α]

/-- Below the first possible key nothing is listed. -/
theorem cellRead_below (d : α) (m : List (Nat × α)) (lo a : Nat) (h : cellsWfFrom d lo m = true) (ha : a < lo) :
    cellRead d m a = d := by
  cases m with
  | nil => rfl
  | cons c rest =>
    obtain ⟨k, v⟩ := c
    simp only [cellsWfFrom, Bool.and_eq_true, decide_eq_true_eq] at h
    have hk : a < k := by omega
    simp [cellRead, hk]

/-- A read after a write: the written value at its key, every other cell as before. The form matters: a write of
the unlisted value removes an entry. -/
theorem cellRead_cellWrite (d : α) (m : List (Nat × α)) (lo a b : Nat) (v : α)
    (h : cellsWfFrom d lo m = true) :
    cellRead d (cellWrite d m a v) b = if b = a then v else cellRead d m b := by
  induction m generalizing lo with
  | nil =>
    by_cases hv : v = d <;> by_cases hb : b = a
    · simp [cellWrite, cellRead, hv]
    · simp [cellWrite, cellRead, hv]
    · simp [cellWrite, cellRead, hv, hb]
    · simp only [cellWrite, cellRead, hv, hb, if_false]
      split <;> rfl
  | cons c rest ih =>
    obtain ⟨k, w⟩ := c
    have h' := h
    simp only [cellsWfFrom, Bool.and_eq_true, decide_eq_true_eq] at h'
    obtain ⟨hlo, hw, hr⟩ := h'
    unfold cellWrite
    by_cases hak : a < k
    · rw [if_pos hak]
      by_cases hv : v = d
      · rw [if_pos hv]
        by_cases hb : b = a
        · rw [if_pos hb, hb, hv]
          simp [cellRead, hak]
        · rw [if_neg hb]
      · rw [if_neg hv]
        by_cases hb : b = a
        · simp [cellRead, hb]
        · rw [if_neg hb]
          by_cases hba : b < a
          · have hbk : b < k := by omega
            simp [cellRead, hba, hbk]
          · rw [cellRead, if_neg hba, if_neg hb]
    · rw [if_neg hak]
      by_cases hka : a = k
      · rw [if_pos hka]
        subst hka
        by_cases hv : v = d
        · rw [if_pos hv]
          by_cases hb : b = a
          · rw [if_pos hb, hb, hv]
            exact cellRead_below d rest (a + 1) a hr (by omega)
          · rw [if_neg hb]
            by_cases hba : b < a
            · rw [cellRead, if_pos hba]
              exact cellRead_below d rest (a + 1) b hr (by omega)
            · rw [cellRead, if_neg hba, if_neg hb]
        · rw [if_neg hv]
          by_cases hb : b = a
          · simp [cellRead, hb]
          · rw [if_neg hb]
            simp [cellRead, hb]
      · rw [if_neg hka]
        by_cases hbk : b < k
        · have hb : b ≠ a := by omega
          simp [cellRead, hbk, hb]
        · by_cases hb : b = k
          · have hba : b ≠ a := by omega
            have : ¬ k < k := by omega
            rw [if_neg hba, hb]
            simp [cellRead]
          · rw [cellRead, if_neg hbk, if_neg hb, ih (k + 1) hr]
            by_cases hba : b = a
            · rw [if_pos hba, if_pos hba]
            · rw [if_neg hba, if_neg hba, cellRead, if_neg hbk, if_neg hb]

/-- Keys that rise from `lo` rise from any lower bound. -/
theorem cellsWfFrom_mono (d : α) (m : List (Nat × α)) {lo lo' : Nat} (hl : lo' ≤ lo)
    (h : cellsWfFrom d lo m = true) : cellsWfFrom d lo' m = true := by
  cases m with
  | nil => rfl
  | cons c rest =>
    obtain ⟨k, v⟩ := c
    simp only [cellsWfFrom, Bool.and_eq_true, decide_eq_true_eq] at h ⊢
    exact ⟨by omega, h.2⟩

/-- A write keeps the canonical form. -/
theorem cellWrite_wfFrom (d : α) (m : List (Nat × α)) (lo a : Nat) (v : α) (h : cellsWfFrom d lo m = true)
    (ha : lo ≤ a) : cellsWfFrom d lo (cellWrite d m a v) = true := by
  induction m generalizing lo with
  | nil => by_cases hv : v = d <;> simp [cellWrite, cellsWfFrom, hv, ha]
  | cons c rest ih =>
    obtain ⟨k, w⟩ := c
    simp only [cellsWfFrom, Bool.and_eq_true, decide_eq_true_eq] at h
    obtain ⟨hlo, hw, hr⟩ := h
    unfold cellWrite
    split
    · split
      · simp [cellsWfFrom, hlo, hw, hr]
      · rename_i hak hv
        simp [cellsWfFrom, ha, hv, hw, hr]
        omega
    · split
      · rename_i hka
        subst hka
        split
        · exact cellsWfFrom_mono d rest (by omega) hr
        · rename_i hv
          simp [cellsWfFrom, ha, hv, hr]
      · simp only [cellsWfFrom, Bool.and_eq_true, decide_eq_true_eq]
        exact ⟨hlo, hw, ih (k + 1) hr (by omega)⟩

/-- A write below `n` keeps every key below `n`. -/
theorem cellWrite_below (d : α) (m : List (Nat × α)) (n a : Nat) (v : α)
    (h : (m.all fun c => decide (c.1 < n)) = true) (ha : a < n) :
    ((cellWrite d m a v).all fun c => decide (c.1 < n)) = true := by
  induction m with
  | nil => by_cases hv : v = d <;> simp [cellWrite, hv, ha]
  | cons c rest ih =>
    obtain ⟨k, w⟩ := c
    simp only [List.all_cons, Bool.and_eq_true, decide_eq_true_eq] at h
    unfold cellWrite
    split
    · split <;> simp only [List.all_cons, Bool.and_eq_true, decide_eq_true_eq]
      · exact h
      · exact ⟨ha, h⟩
    · split
      · split
        · exact h.2
        · simp only [List.all_cons, Bool.and_eq_true, decide_eq_true_eq]
          exact ⟨ha, h.2⟩
      · simp only [List.all_cons, Bool.and_eq_true, decide_eq_true_eq]
        exact ⟨h.1, ih h.2⟩

/-! ## Byte memories -/

/-- A byte of a memory after a write. -/
theorem Memory.read_write (m : Memory) (a b : Nat) (v : Byte) (h : m.wf = true) :
    (m.write a v).read b = if b = a then v else m.read b :=
  cellRead_cellWrite unlistedByte m 0 a b v h

/-- A write keeps the canonical form of a byte memory. -/
theorem Memory.write_wf (m : Memory) (a : Nat) (v : Byte) (h : m.wf = true) : (m.write a v).wf = true :=
  cellWrite_wfFrom unlistedByte m 0 a v h (Nat.zero_le a)

/-- A write below `n` keeps the memory below `n`. -/
theorem Memory.write_below (m : Memory) (n a : Nat) (v : Byte) (h : m.below n = true) (ha : a < n) :
    (m.write a v).below n = true :=
  cellWrite_below unlistedByte m n a v h ha

/-- The memory of a byte list is canonical. -/
theorem Memory.ofBytesFrom_wf (l : List Byte) (a lo : Nat) (h : lo ≤ a) :
    cellsWfFrom unlistedByte lo (Memory.ofBytesFrom a l) = true := by
  induction l generalizing a lo with
  | nil => rfl
  | cons b rest ih =>
    unfold Memory.ofBytesFrom
    split
    · exact ih (a + 1) lo (by omega)
    · rename_i hb
      simp only [cellsWfFrom, Bool.and_eq_true, decide_eq_true_eq]
      exact ⟨h, hb, ih (a + 1) (a + 1) (Nat.le_refl _)⟩

/-- The memory of a byte list lies below the list's end. -/
theorem Memory.ofBytesFrom_below (l : List Byte) (a n : Nat) (h : a + l.length ≤ n) :
    (Memory.ofBytesFrom a l).below n = true := by
  induction l generalizing a with
  | nil => rfl
  | cons b rest ih =>
    simp only [List.length_cons] at h
    unfold Memory.ofBytesFrom
    split
    · exact ih (a + 1) (by omega)
    · simp only [Memory.below, List.all_cons, Bool.and_eq_true, decide_eq_true_eq]
      exact ⟨by omega, ih (a + 1) (by omega)⟩

/-- A loaded memory is canonical and no larger than its bytes. -/
theorem Memory.ofBytes_ok (l : List Byte) :
    (Memory.ofBytes l).wf = true ∧ (Memory.ofBytes l).below l.length = true :=
  ⟨Memory.ofBytesFrom_wf l 0 0 (Nat.le_refl 0), Memory.ofBytesFrom_below l 0 l.length (by omega)⟩

/-- The memory after reset is canonical. -/
theorem Memory.reset_wf : Memory.wf [] = true := rfl

end Sys2Proof.Machine
end

