-- ==== Sys2Proof/Laws/State.lean ====
section
/-! SUPPORT. One lemma per field for every update of the state, true by definition, so that no proof unfolds a
record update. -/

namespace Sys2Proof.Machine

/-! ## `setA` -/

@[simp] theorem State.setA_cpu_a (v : Byte) (s : State) : (s.setA v).cpu.a = v := rfl
@[simp] theorem State.setA_cpu_x (v : Byte) (s : State) : (s.setA v).cpu.x = s.cpu.x := rfl
@[simp] theorem State.setA_cpu_y (v : Byte) (s : State) : (s.setA v).cpu.y = s.cpu.y := rfl
@[simp] theorem State.setA_cpu_sp (v : Byte) (s : State) : (s.setA v).cpu.sp = s.cpu.sp := rfl
@[simp] theorem State.setA_cpu_p (v : Byte) (s : State) : (s.setA v).cpu.p = s.cpu.p := rfl
@[simp] theorem State.setA_cpu_pc (v : Byte) (s : State) : (s.setA v).cpu.pc = s.cpu.pc := rfl
@[simp] theorem State.setA_cpu_opcode (v : Byte) (s : State) : (s.setA v).cpu.opcode = s.cpu.opcode := rfl
@[simp] theorem State.setA_cpu_fetched (v : Byte) (s : State) : (s.setA v).cpu.fetched = s.cpu.fetched := rfl
@[simp] theorem State.setA_cpu_addrAbs (v : Byte) (s : State) : (s.setA v).cpu.addrAbs = s.cpu.addrAbs := rfl
@[simp] theorem State.setA_cpu_addrRel (v : Byte) (s : State) : (s.setA v).cpu.addrRel = s.cpu.addrRel := rfl
@[simp] theorem State.setA_cpu_cycles (v : Byte) (s : State) : (s.setA v).cpu.cycles = s.cpu.cycles := rfl
@[simp] theorem State.setA_cpu_nmiPending (v : Byte) (s : State) : (s.setA v).cpu.nmiPending = s.cpu.nmiPending := rfl
@[simp] theorem State.setA_cpu_irqPending (v : Byte) (s : State) : (s.setA v).cpu.irqPending = s.cpu.irqPending := rfl
@[simp] theorem State.setA_cpu_totalCycles (v : Byte) (s : State) : (s.setA v).cpu.totalCycles = s.cpu.totalCycles := rfl
@[simp] theorem State.setA_cpu_dmaStall (v : Byte) (s : State) : (s.setA v).cpu.dmaStall = s.cpu.dmaStall := rfl
@[simp] theorem State.setA_ppu (v : Byte) (s : State) : (s.setA v).ppu = s.ppu := rfl
@[simp] theorem State.setA_apu (v : Byte) (s : State) : (s.setA v).apu = s.apu := rfl
@[simp] theorem State.setA_ctrl (v : Byte) (s : State) : (s.setA v).ctrl = s.ctrl := rfl
@[simp] theorem State.setA_ram (v : Byte) (s : State) : (s.setA v).ram = s.ram := rfl
@[simp] theorem State.setA_cart (v : Byte) (s : State) : (s.setA v).cart = s.cart := rfl
@[simp] theorem State.setA_dotCount (v : Byte) (s : State) : (s.setA v).dotCount = s.dotCount := rfl
@[simp] theorem State.setA_config (v : Byte) (s : State) : (s.setA v).config = s.config := rfl

/-! ## `setX` -/

@[simp] theorem State.setX_cpu_a (v : Byte) (s : State) : (s.setX v).cpu.a = s.cpu.a := rfl
@[simp] theorem State.setX_cpu_x (v : Byte) (s : State) : (s.setX v).cpu.x = v := rfl
@[simp] theorem State.setX_cpu_y (v : Byte) (s : State) : (s.setX v).cpu.y = s.cpu.y := rfl
@[simp] theorem State.setX_cpu_sp (v : Byte) (s : State) : (s.setX v).cpu.sp = s.cpu.sp := rfl
@[simp] theorem State.setX_cpu_p (v : Byte) (s : State) : (s.setX v).cpu.p = s.cpu.p := rfl
@[simp] theorem State.setX_cpu_pc (v : Byte) (s : State) : (s.setX v).cpu.pc = s.cpu.pc := rfl
@[simp] theorem State.setX_cpu_opcode (v : Byte) (s : State) : (s.setX v).cpu.opcode = s.cpu.opcode := rfl
@[simp] theorem State.setX_cpu_fetched (v : Byte) (s : State) : (s.setX v).cpu.fetched = s.cpu.fetched := rfl
@[simp] theorem State.setX_cpu_addrAbs (v : Byte) (s : State) : (s.setX v).cpu.addrAbs = s.cpu.addrAbs := rfl
@[simp] theorem State.setX_cpu_addrRel (v : Byte) (s : State) : (s.setX v).cpu.addrRel = s.cpu.addrRel := rfl
@[simp] theorem State.setX_cpu_cycles (v : Byte) (s : State) : (s.setX v).cpu.cycles = s.cpu.cycles := rfl
@[simp] theorem State.setX_cpu_nmiPending (v : Byte) (s : State) : (s.setX v).cpu.nmiPending = s.cpu.nmiPending := rfl
@[simp] theorem State.setX_cpu_irqPending (v : Byte) (s : State) : (s.setX v).cpu.irqPending = s.cpu.irqPending := rfl
@[simp] theorem State.setX_cpu_totalCycles (v : Byte) (s : State) : (s.setX v).cpu.totalCycles = s.cpu.totalCycles := rfl
@[simp] theorem State.setX_cpu_dmaStall (v : Byte) (s : State) : (s.setX v).cpu.dmaStall = s.cpu.dmaStall := rfl
@[simp] theorem State.setX_ppu (v : Byte) (s : State) : (s.setX v).ppu = s.ppu := rfl
@[simp] theorem State.setX_apu (v : Byte) (s : State) : (s.setX v).apu = s.apu := rfl
@[simp] theorem State.setX_ctrl (v : Byte) (s : State) : (s.setX v).ctrl = s.ctrl := rfl
@[simp] theorem State.setX_ram (v : Byte) (s : State) : (s.setX v).ram = s.ram := rfl
@[simp] theorem State.setX_cart (v : Byte) (s : State) : (s.setX v).cart = s.cart := rfl
@[simp] theorem State.setX_dotCount (v : Byte) (s : State) : (s.setX v).dotCount = s.dotCount := rfl
@[simp] theorem State.setX_config (v : Byte) (s : State) : (s.setX v).config = s.config := rfl

/-! ## `setY` -/

@[simp] theorem State.setY_cpu_a (v : Byte) (s : State) : (s.setY v).cpu.a = s.cpu.a := rfl
@[simp] theorem State.setY_cpu_x (v : Byte) (s : State) : (s.setY v).cpu.x = s.cpu.x := rfl
@[simp] theorem State.setY_cpu_y (v : Byte) (s : State) : (s.setY v).cpu.y = v := rfl
@[simp] theorem State.setY_cpu_sp (v : Byte) (s : State) : (s.setY v).cpu.sp = s.cpu.sp := rfl
@[simp] theorem State.setY_cpu_p (v : Byte) (s : State) : (s.setY v).cpu.p = s.cpu.p := rfl
@[simp] theorem State.setY_cpu_pc (v : Byte) (s : State) : (s.setY v).cpu.pc = s.cpu.pc := rfl
@[simp] theorem State.setY_cpu_opcode (v : Byte) (s : State) : (s.setY v).cpu.opcode = s.cpu.opcode := rfl
@[simp] theorem State.setY_cpu_fetched (v : Byte) (s : State) : (s.setY v).cpu.fetched = s.cpu.fetched := rfl
@[simp] theorem State.setY_cpu_addrAbs (v : Byte) (s : State) : (s.setY v).cpu.addrAbs = s.cpu.addrAbs := rfl
@[simp] theorem State.setY_cpu_addrRel (v : Byte) (s : State) : (s.setY v).cpu.addrRel = s.cpu.addrRel := rfl
@[simp] theorem State.setY_cpu_cycles (v : Byte) (s : State) : (s.setY v).cpu.cycles = s.cpu.cycles := rfl
@[simp] theorem State.setY_cpu_nmiPending (v : Byte) (s : State) : (s.setY v).cpu.nmiPending = s.cpu.nmiPending := rfl
@[simp] theorem State.setY_cpu_irqPending (v : Byte) (s : State) : (s.setY v).cpu.irqPending = s.cpu.irqPending := rfl
@[simp] theorem State.setY_cpu_totalCycles (v : Byte) (s : State) : (s.setY v).cpu.totalCycles = s.cpu.totalCycles := rfl
@[simp] theorem State.setY_cpu_dmaStall (v : Byte) (s : State) : (s.setY v).cpu.dmaStall = s.cpu.dmaStall := rfl
@[simp] theorem State.setY_ppu (v : Byte) (s : State) : (s.setY v).ppu = s.ppu := rfl
@[simp] theorem State.setY_apu (v : Byte) (s : State) : (s.setY v).apu = s.apu := rfl
@[simp] theorem State.setY_ctrl (v : Byte) (s : State) : (s.setY v).ctrl = s.ctrl := rfl
@[simp] theorem State.setY_ram (v : Byte) (s : State) : (s.setY v).ram = s.ram := rfl
@[simp] theorem State.setY_cart (v : Byte) (s : State) : (s.setY v).cart = s.cart := rfl
@[simp] theorem State.setY_dotCount (v : Byte) (s : State) : (s.setY v).dotCount = s.dotCount := rfl
@[simp] theorem State.setY_config (v : Byte) (s : State) : (s.setY v).config = s.config := rfl

/-! ## `setSp` -/

@[simp] theorem State.setSp_cpu_a (v : Byte) (s : State) : (s.setSp v).cpu.a = s.cpu.a := rfl
@[simp] theorem State.setSp_cpu_x (v : Byte) (s : State) : (s.setSp v).cpu.x = s.cpu.x := rfl
@[simp] theorem State.setSp_cpu_y (v : Byte) (s : State) : (s.setSp v).cpu.y = s.cpu.y := rfl
@[simp] theorem State.setSp_cpu_sp (v : Byte) (s : State) : (s.setSp v).cpu.sp = v := rfl
@[simp] theorem State.setSp_cpu_p (v : Byte) (s : State) : (s.setSp v).cpu.p = s.cpu.p := rfl
@[simp] theorem State.setSp_cpu_pc (v : Byte) (s : State) : (s.setSp v).cpu.pc = s.cpu.pc := rfl
@[simp] theorem State.setSp_cpu_opcode (v : Byte) (s : State) : (s.setSp v).cpu.opcode = s.cpu.opcode := rfl
@[simp] theorem State.setSp_cpu_fetched (v : Byte) (s : State) : (s.setSp v).cpu.fetched = s.cpu.fetched := rfl
@[simp] theorem State.setSp_cpu_addrAbs (v : Byte) (s : State) : (s.setSp v).cpu.addrAbs = s.cpu.addrAbs := rfl
@[simp] theorem State.setSp_cpu_addrRel (v : Byte) (s : State) : (s.setSp v).cpu.addrRel = s.cpu.addrRel := rfl
@[simp] theorem State.setSp_cpu_cycles (v : Byte) (s : State) : (s.setSp v).cpu.cycles = s.cpu.cycles := rfl
@[simp] theorem State.setSp_cpu_nmiPending (v : Byte) (s : State) : (s.setSp v).cpu.nmiPending = s.cpu.nmiPending := rfl
@[simp] theorem State.setSp_cpu_irqPending (v : Byte) (s : State) : (s.setSp v).cpu.irqPending = s.cpu.irqPending := rfl
@[simp] theorem State.setSp_cpu_totalCycles (v : Byte) (s : State) : (s.setSp v).cpu.totalCycles = s.cpu.totalCycles := rfl
@[simp] theorem State.setSp_cpu_dmaStall (v : Byte) (s : State) : (s.setSp v).cpu.dmaStall = s.cpu.dmaStall := rfl
@[simp] theorem State.setSp_ppu (v : Byte) (s : State) : (s.setSp v).ppu = s.ppu := rfl
@[simp] theorem State.setSp_apu (v : Byte) (s : State) : (s.setSp v).apu = s.apu := rfl
@[simp] theorem State.setSp_ctrl (v : Byte) (s : State) : (s.setSp v).ctrl = s.ctrl := rfl
@[simp] theorem State.setSp_ram (v : Byte) (s : State) : (s.setSp v).ram = s.ram := rfl
@[simp] theorem State.setSp_cart (v : Byte) (s : State) : (s.setSp v).cart = s.cart := rfl
@[simp] theorem State.setSp_dotCount (v : Byte) (s : State) : (s.setSp v).dotCount = s.dotCount := rfl
@[simp] theorem State.setSp_config (v : Byte) (s : State) : (s.setSp v).config = s.config := rfl

/-! ## `setP` -/

@[simp] theorem State.setP_cpu_a (v : Byte) (s : State) : (s.setP v).cpu.a = s.cpu.a := rfl
@[simp] theorem State.setP_cpu_x (v : Byte) (s : State) : (s.setP v).cpu.x = s.cpu.x := rfl
@[simp] theorem State.setP_cpu_y (v : Byte) (s : State) : (s.setP v).cpu.y = s.cpu.y := rfl
@[simp] theorem State.setP_cpu_sp (v : Byte) (s : State) : (s.setP v).cpu.sp = s.cpu.sp := rfl
@[simp] theorem State.setP_cpu_p (v : Byte) (s : State) : (s.setP v).cpu.p = v := rfl
@[simp] theorem State.setP_cpu_pc (v : Byte) (s : State) : (s.setP v).cpu.pc = s.cpu.pc := rfl
@[simp] theorem State.setP_cpu_opcode (v : Byte) (s : State) : (s.setP v).cpu.opcode = s.cpu.opcode := rfl
@[simp] theorem State.setP_cpu_fetched (v : Byte) (s : State) : (s.setP v).cpu.fetched = s.cpu.fetched := rfl
@[simp] theorem State.setP_cpu_addrAbs (v : Byte) (s : State) : (s.setP v).cpu.addrAbs = s.cpu.addrAbs := rfl
@[simp] theorem State.setP_cpu_addrRel (v : Byte) (s : State) : (s.setP v).cpu.addrRel = s.cpu.addrRel := rfl
@[simp] theorem State.setP_cpu_cycles (v : Byte) (s : State) : (s.setP v).cpu.cycles = s.cpu.cycles := rfl
@[simp] theorem State.setP_cpu_nmiPending (v : Byte) (s : State) : (s.setP v).cpu.nmiPending = s.cpu.nmiPending := rfl
@[simp] theorem State.setP_cpu_irqPending (v : Byte) (s : State) : (s.setP v).cpu.irqPending = s.cpu.irqPending := rfl
@[simp] theorem State.setP_cpu_totalCycles (v : Byte) (s : State) : (s.setP v).cpu.totalCycles = s.cpu.totalCycles := rfl
@[simp] theorem State.setP_cpu_dmaStall (v : Byte) (s : State) : (s.setP v).cpu.dmaStall = s.cpu.dmaStall := rfl
@[simp] theorem State.setP_ppu (v : Byte) (s : State) : (s.setP v).ppu = s.ppu := rfl
@[simp] theorem State.setP_apu (v : Byte) (s : State) : (s.setP v).apu = s.apu := rfl
@[simp] theorem State.setP_ctrl (v : Byte) (s : State) : (s.setP v).ctrl = s.ctrl := rfl
@[simp] theorem State.setP_ram (v : Byte) (s : State) : (s.setP v).ram = s.ram := rfl
@[simp] theorem State.setP_cart (v : Byte) (s : State) : (s.setP v).cart = s.cart := rfl
@[simp] theorem State.setP_dotCount (v : Byte) (s : State) : (s.setP v).dotCount = s.dotCount := rfl
@[simp] theorem State.setP_config (v : Byte) (s : State) : (s.setP v).config = s.config := rfl

/-! ## `setPc` -/

@[simp] theorem State.setPc_cpu_a (v : Word) (s : State) : (s.setPc v).cpu.a = s.cpu.a := rfl
@[simp] theorem State.setPc_cpu_x (v : Word) (s : State) : (s.setPc v).cpu.x = s.cpu.x := rfl
@[simp] theorem State.setPc_cpu_y (v : Word) (s : State) : (s.setPc v).cpu.y = s.cpu.y := rfl
@[simp] theorem State.setPc_cpu_sp (v : Word) (s : State) : (s.setPc v).cpu.sp = s.cpu.sp := rfl
@[simp] theorem State.setPc_cpu_p (v : Word) (s : State) : (s.setPc v).cpu.p = s.cpu.p := rfl
@[simp] theorem State.setPc_cpu_pc (v : Word) (s : State) : (s.setPc v).cpu.pc = v := rfl
@[simp] theorem State.setPc_cpu_opcode (v : Word) (s : State) : (s.setPc v).cpu.opcode = s.cpu.opcode := rfl
@[simp] theorem State.setPc_cpu_fetched (v : Word) (s : State) : (s.setPc v).cpu.fetched = s.cpu.fetched := rfl
@[simp] theorem State.setPc_cpu_addrAbs (v : Word) (s : State) : (s.setPc v).cpu.addrAbs = s.cpu.addrAbs := rfl
@[simp] theorem State.setPc_cpu_addrRel (v : Word) (s : State) : (s.setPc v).cpu.addrRel = s.cpu.addrRel := rfl
@[simp] theorem State.setPc_cpu_cycles (v : Word) (s : State) : (s.setPc v).cpu.cycles = s.cpu.cycles := rfl
@[simp] theorem State.setPc_cpu_nmiPending (v : Word) (s : State) : (s.setPc v).cpu.nmiPending = s.cpu.nmiPending := rfl
@[simp] theorem State.setPc_cpu_irqPending (v : Word) (s : State) : (s.setPc v).cpu.irqPending = s.cpu.irqPending := rfl
@[simp] theorem State.setPc_cpu_totalCycles (v : Word) (s : State) : (s.setPc v).cpu.totalCycles = s.cpu.totalCycles := rfl
@[simp] theorem State.setPc_cpu_dmaStall (v : Word) (s : State) : (s.setPc v).cpu.dmaStall = s.cpu.dmaStall := rfl
@[simp] theorem State.setPc_ppu (v : Word) (s : State) : (s.setPc v).ppu = s.ppu := rfl
@[simp] theorem State.setPc_apu (v : Word) (s : State) : (s.setPc v).apu = s.apu := rfl
@[simp] theorem State.setPc_ctrl (v : Word) (s : State) : (s.setPc v).ctrl = s.ctrl := rfl
@[simp] theorem State.setPc_ram (v : Word) (s : State) : (s.setPc v).ram = s.ram := rfl
@[simp] theorem State.setPc_cart (v : Word) (s : State) : (s.setPc v).cart = s.cart := rfl
@[simp] theorem State.setPc_dotCount (v : Word) (s : State) : (s.setPc v).dotCount = s.dotCount := rfl
@[simp] theorem State.setPc_config (v : Word) (s : State) : (s.setPc v).config = s.config := rfl

/-! ## `setOpcode` -/

@[simp] theorem State.setOpcode_cpu_a (v : Byte) (s : State) : (s.setOpcode v).cpu.a = s.cpu.a := rfl
@[simp] theorem State.setOpcode_cpu_x (v : Byte) (s : State) : (s.setOpcode v).cpu.x = s.cpu.x := rfl
@[simp] theorem State.setOpcode_cpu_y (v : Byte) (s : State) : (s.setOpcode v).cpu.y = s.cpu.y := rfl
@[simp] theorem State.setOpcode_cpu_sp (v : Byte) (s : State) : (s.setOpcode v).cpu.sp = s.cpu.sp := rfl
@[simp] theorem State.setOpcode_cpu_p (v : Byte) (s : State) : (s.setOpcode v).cpu.p = s.cpu.p := rfl
@[simp] theorem State.setOpcode_cpu_pc (v : Byte) (s : State) : (s.setOpcode v).cpu.pc = s.cpu.pc := rfl
@[simp] theorem State.setOpcode_cpu_opcode (v : Byte) (s : State) : (s.setOpcode v).cpu.opcode = v := rfl
@[simp] theorem State.setOpcode_cpu_fetched (v : Byte) (s : State) : (s.setOpcode v).cpu.fetched = s.cpu.fetched := rfl
@[simp] theorem State.setOpcode_cpu_addrAbs (v : Byte) (s : State) : (s.setOpcode v).cpu.addrAbs = s.cpu.addrAbs := rfl
@[simp] theorem State.setOpcode_cpu_addrRel (v : Byte) (s : State) : (s.setOpcode v).cpu.addrRel = s.cpu.addrRel := rfl
@[simp] theorem State.setOpcode_cpu_cycles (v : Byte) (s : State) : (s.setOpcode v).cpu.cycles = s.cpu.cycles := rfl
@[simp] theorem State.setOpcode_cpu_nmiPending (v : Byte) (s : State) : (s.setOpcode v).cpu.nmiPending = s.cpu.nmiPending := rfl
@[simp] theorem State.setOpcode_cpu_irqPending (v : Byte) (s : State) : (s.setOpcode v).cpu.irqPending = s.cpu.irqPending := rfl
@[simp] theorem State.setOpcode_cpu_totalCycles (v : Byte) (s : State) : (s.setOpcode v).cpu.totalCycles = s.cpu.totalCycles := rfl
@[simp] theorem State.setOpcode_cpu_dmaStall (v : Byte) (s : State) : (s.setOpcode v).cpu.dmaStall = s.cpu.dmaStall := rfl
@[simp] theorem State.setOpcode_ppu (v : Byte) (s : State) : (s.setOpcode v).ppu = s.ppu := rfl
@[simp] theorem State.setOpcode_apu (v : Byte) (s : State) : (s.setOpcode v).apu = s.apu := rfl
@[simp] theorem State.setOpcode_ctrl (v : Byte) (s : State) : (s.setOpcode v).ctrl = s.ctrl := rfl
@[simp] theorem State.setOpcode_ram (v : Byte) (s : State) : (s.setOpcode v).ram = s.ram := rfl
@[simp] theorem State.setOpcode_cart (v : Byte) (s : State) : (s.setOpcode v).cart = s.cart := rfl
@[simp] theorem State.setOpcode_dotCount (v : Byte) (s : State) : (s.setOpcode v).dotCount = s.dotCount := rfl
@[simp] theorem State.setOpcode_config (v : Byte) (s : State) : (s.setOpcode v).config = s.config := rfl

/-! ## `setFetched` -/

@[simp] theorem State.setFetched_cpu_a (v : Byte) (s : State) : (s.setFetched v).cpu.a = s.cpu.a := rfl
@[simp] theorem State.setFetched_cpu_x (v : Byte) (s : State) : (s.setFetched v).cpu.x = s.cpu.x := rfl
@[simp] theorem State.setFetched_cpu_y (v : Byte) (s : State) : (s.setFetched v).cpu.y = s.cpu.y := rfl
@[simp] theorem State.setFetched_cpu_sp (v : Byte) (s : State) : (s.setFetched v).cpu.sp = s.cpu.sp := rfl
@[simp] theorem State.setFetched_cpu_p (v : Byte) (s : State) : (s.setFetched v).cpu.p = s.cpu.p := rfl
@[simp] theorem State.setFetched_cpu_pc (v : Byte) (s : State) : (s.setFetched v).cpu.pc = s.cpu.pc := rfl
@[simp] theorem State.setFetched_cpu_opcode (v : Byte) (s : State) : (s.setFetched v).cpu.opcode = s.cpu.opcode := rfl
@[simp] theorem State.setFetched_cpu_fetched (v : Byte) (s : State) : (s.setFetched v).cpu.fetched = v := rfl
@[simp] theorem State.setFetched_cpu_addrAbs (v : Byte) (s : State) : (s.setFetched v).cpu.addrAbs = s.cpu.addrAbs := rfl
@[simp] theorem State.setFetched_cpu_addrRel (v : Byte) (s : State) : (s.setFetched v).cpu.addrRel = s.cpu.addrRel := rfl
@[simp] theorem State.setFetched_cpu_cycles (v : Byte) (s : State) : (s.setFetched v).cpu.cycles = s.cpu.cycles := rfl
@[simp] theorem State.setFetched_cpu_nmiPending (v : Byte) (s : State) : (s.setFetched v).cpu.nmiPending = s.cpu.nmiPending := rfl
@[simp] theorem State.setFetched_cpu_irqPending (v : Byte) (s : State) : (s.setFetched v).cpu.irqPending = s.cpu.irqPending := rfl
@[simp] theorem State.setFetched_cpu_totalCycles (v : Byte) (s : State) : (s.setFetched v).cpu.totalCycles = s.cpu.totalCycles := rfl
@[simp] theorem State.setFetched_cpu_dmaStall (v : Byte) (s : State) : (s.setFetched v).cpu.dmaStall = s.cpu.dmaStall := rfl
@[simp] theorem State.setFetched_ppu (v : Byte) (s : State) : (s.setFetched v).ppu = s.ppu := rfl
@[simp] theorem State.setFetched_apu (v : Byte) (s : State) : (s.setFetched v).apu = s.apu := rfl
@[simp] theorem State.setFetched_ctrl (v : Byte) (s : State) : (s.setFetched v).ctrl = s.ctrl := rfl
@[simp] theorem State.setFetched_ram (v : Byte) (s : State) : (s.setFetched v).ram = s.ram := rfl
@[simp] theorem State.setFetched_cart (v : Byte) (s : State) : (s.setFetched v).cart = s.cart := rfl
@[simp] theorem State.setFetched_dotCount (v : Byte) (s : State) : (s.setFetched v).dotCount = s.dotCount := rfl
@[simp] theorem State.setFetched_config (v : Byte) (s : State) : (s.setFetched v).config = s.config := rfl

/-! ## `setAddrAbs` -/

@[simp] theorem State.setAddrAbs_cpu_a (v : Word) (s : State) : (s.setAddrAbs v).cpu.a = s.cpu.a := rfl
@[simp] theorem State.setAddrAbs_cpu_x (v : Word) (s : State) : (s.setAddrAbs v).cpu.x = s.cpu.x := rfl
@[simp] theorem State.setAddrAbs_cpu_y (v : Word) (s : State) : (s.setAddrAbs v).cpu.y = s.cpu.y := rfl
@[simp] theorem State.setAddrAbs_cpu_sp (v : Word) (s : State) : (s.setAddrAbs v).cpu.sp = s.cpu.sp := rfl
@[simp] theorem State.setAddrAbs_cpu_p (v : Word) (s : State) : (s.setAddrAbs v).cpu.p = s.cpu.p := rfl
@[simp] theorem State.setAddrAbs_cpu_pc (v : Word) (s : State) : (s.setAddrAbs v).cpu.pc = s.cpu.pc := rfl
@[simp] theorem State.setAddrAbs_cpu_opcode (v : Word) (s : State) : (s.setAddrAbs v).cpu.opcode = s.cpu.opcode := rfl
@[simp] theorem State.setAddrAbs_cpu_fetched (v : Word) (s : State) : (s.setAddrAbs v).cpu.fetched = s.cpu.fetched := rfl
@[simp] theorem State.setAddrAbs_cpu_addrAbs (v : Word) (s : State) : (s.setAddrAbs v).cpu.addrAbs = v := rfl
@[simp] theorem State.setAddrAbs_cpu_addrRel (v : Word) (s : State) : (s.setAddrAbs v).cpu.addrRel = s.cpu.addrRel := rfl
@[simp] theorem State.setAddrAbs_cpu_cycles (v : Word) (s : State) : (s.setAddrAbs v).cpu.cycles = s.cpu.cycles := rfl
@[simp] theorem State.setAddrAbs_cpu_nmiPending (v : Word) (s : State) : (s.setAddrAbs v).cpu.nmiPending = s.cpu.nmiPending := rfl
@[simp] theorem State.setAddrAbs_cpu_irqPending (v : Word) (s : State) : (s.setAddrAbs v).cpu.irqPending = s.cpu.irqPending := rfl
@[simp] theorem State.setAddrAbs_cpu_totalCycles (v : Word) (s : State) : (s.setAddrAbs v).cpu.totalCycles = s.cpu.totalCycles := rfl
@[simp] theorem State.setAddrAbs_cpu_dmaStall (v : Word) (s : State) : (s.setAddrAbs v).cpu.dmaStall = s.cpu.dmaStall := rfl
@[simp] theorem State.setAddrAbs_ppu (v : Word) (s : State) : (s.setAddrAbs v).ppu = s.ppu := rfl
@[simp] theorem State.setAddrAbs_apu (v : Word) (s : State) : (s.setAddrAbs v).apu = s.apu := rfl
@[simp] theorem State.setAddrAbs_ctrl (v : Word) (s : State) : (s.setAddrAbs v).ctrl = s.ctrl := rfl
@[simp] theorem State.setAddrAbs_ram (v : Word) (s : State) : (s.setAddrAbs v).ram = s.ram := rfl
@[simp] theorem State.setAddrAbs_cart (v : Word) (s : State) : (s.setAddrAbs v).cart = s.cart := rfl
@[simp] theorem State.setAddrAbs_dotCount (v : Word) (s : State) : (s.setAddrAbs v).dotCount = s.dotCount := rfl
@[simp] theorem State.setAddrAbs_config (v : Word) (s : State) : (s.setAddrAbs v).config = s.config := rfl

/-! ## `setAddrRel` -/

@[simp] theorem State.setAddrRel_cpu_a (v : Word) (s : State) : (s.setAddrRel v).cpu.a = s.cpu.a := rfl
@[simp] theorem State.setAddrRel_cpu_x (v : Word) (s : State) : (s.setAddrRel v).cpu.x = s.cpu.x := rfl
@[simp] theorem State.setAddrRel_cpu_y (v : Word) (s : State) : (s.setAddrRel v).cpu.y = s.cpu.y := rfl
@[simp] theorem State.setAddrRel_cpu_sp (v : Word) (s : State) : (s.setAddrRel v).cpu.sp = s.cpu.sp := rfl
@[simp] theorem State.setAddrRel_cpu_p (v : Word) (s : State) : (s.setAddrRel v).cpu.p = s.cpu.p := rfl
@[simp] theorem State.setAddrRel_cpu_pc (v : Word) (s : State) : (s.setAddrRel v).cpu.pc = s.cpu.pc := rfl
@[simp] theorem State.setAddrRel_cpu_opcode (v : Word) (s : State) : (s.setAddrRel v).cpu.opcode = s.cpu.opcode := rfl
@[simp] theorem State.setAddrRel_cpu_fetched (v : Word) (s : State) : (s.setAddrRel v).cpu.fetched = s.cpu.fetched := rfl
@[simp] theorem State.setAddrRel_cpu_addrAbs (v : Word) (s : State) : (s.setAddrRel v).cpu.addrAbs = s.cpu.addrAbs := rfl
@[simp] theorem State.setAddrRel_cpu_addrRel (v : Word) (s : State) : (s.setAddrRel v).cpu.addrRel = v := rfl
@[simp] theorem State.setAddrRel_cpu_cycles (v : Word) (s : State) : (s.setAddrRel v).cpu.cycles = s.cpu.cycles := rfl
@[simp] theorem State.setAddrRel_cpu_nmiPending (v : Word) (s : State) : (s.setAddrRel v).cpu.nmiPending = s.cpu.nmiPending := rfl
@[simp] theorem State.setAddrRel_cpu_irqPending (v : Word) (s : State) : (s.setAddrRel v).cpu.irqPending = s.cpu.irqPending := rfl
@[simp] theorem State.setAddrRel_cpu_totalCycles (v : Word) (s : State) : (s.setAddrRel v).cpu.totalCycles = s.cpu.totalCycles := rfl
@[simp] theorem State.setAddrRel_cpu_dmaStall (v : Word) (s : State) : (s.setAddrRel v).cpu.dmaStall = s.cpu.dmaStall := rfl
@[simp] theorem State.setAddrRel_ppu (v : Word) (s : State) : (s.setAddrRel v).ppu = s.ppu := rfl
@[simp] theorem State.setAddrRel_apu (v : Word) (s : State) : (s.setAddrRel v).apu = s.apu := rfl
@[simp] theorem State.setAddrRel_ctrl (v : Word) (s : State) : (s.setAddrRel v).ctrl = s.ctrl := rfl
@[simp] theorem State.setAddrRel_ram (v : Word) (s : State) : (s.setAddrRel v).ram = s.ram := rfl
@[simp] theorem State.setAddrRel_cart (v : Word) (s : State) : (s.setAddrRel v).cart = s.cart := rfl
@[simp] theorem State.setAddrRel_dotCount (v : Word) (s : State) : (s.setAddrRel v).dotCount = s.dotCount := rfl
@[simp] theorem State.setAddrRel_config (v : Word) (s : State) : (s.setAddrRel v).config = s.config := rfl

/-! ## `setCycles` -/

@[simp] theorem State.setCycles_cpu_a (v : Nat) (s : State) : (s.setCycles v).cpu.a = s.cpu.a := rfl
@[simp] theorem State.setCycles_cpu_x (v : Nat) (s : State) : (s.setCycles v).cpu.x = s.cpu.x := rfl
@[simp] theorem State.setCycles_cpu_y (v : Nat) (s : State) : (s.setCycles v).cpu.y = s.cpu.y := rfl
@[simp] theorem State.setCycles_cpu_sp (v : Nat) (s : State) : (s.setCycles v).cpu.sp = s.cpu.sp := rfl
@[simp] theorem State.setCycles_cpu_p (v : Nat) (s : State) : (s.setCycles v).cpu.p = s.cpu.p := rfl
@[simp] theorem State.setCycles_cpu_pc (v : Nat) (s : State) : (s.setCycles v).cpu.pc = s.cpu.pc := rfl
@[simp] theorem State.setCycles_cpu_opcode (v : Nat) (s : State) : (s.setCycles v).cpu.opcode = s.cpu.opcode := rfl
@[simp] theorem State.setCycles_cpu_fetched (v : Nat) (s : State) : (s.setCycles v).cpu.fetched = s.cpu.fetched := rfl
@[simp] theorem State.setCycles_cpu_addrAbs (v : Nat) (s : State) : (s.setCycles v).cpu.addrAbs = s.cpu.addrAbs := rfl
@[simp] theorem State.setCycles_cpu_addrRel (v : Nat) (s : State) : (s.setCycles v).cpu.addrRel = s.cpu.addrRel := rfl
@[simp] theorem State.setCycles_cpu_cycles (v : Nat) (s : State) : (s.setCycles v).cpu.cycles = v := rfl
@[simp] theorem State.setCycles_cpu_nmiPending (v : Nat) (s : State) : (s.setCycles v).cpu.nmiPending = s.cpu.nmiPending := rfl
@[simp] theorem State.setCycles_cpu_irqPending (v : Nat) (s : State) : (s.setCycles v).cpu.irqPending = s.cpu.irqPending := rfl
@[simp] theorem State.setCycles_cpu_totalCycles (v : Nat) (s : State) : (s.setCycles v).cpu.totalCycles = s.cpu.totalCycles := rfl
@[simp] theorem State.setCycles_cpu_dmaStall (v : Nat) (s : State) : (s.setCycles v).cpu.dmaStall = s.cpu.dmaStall := rfl
@[simp] theorem State.setCycles_ppu (v : Nat) (s : State) : (s.setCycles v).ppu = s.ppu := rfl
@[simp] theorem State.setCycles_apu (v : Nat) (s : State) : (s.setCycles v).apu = s.apu := rfl
@[simp] theorem State.setCycles_ctrl (v : Nat) (s : State) : (s.setCycles v).ctrl = s.ctrl := rfl
@[simp] theorem State.setCycles_ram (v : Nat) (s : State) : (s.setCycles v).ram = s.ram := rfl
@[simp] theorem State.setCycles_cart (v : Nat) (s : State) : (s.setCycles v).cart = s.cart := rfl
@[simp] theorem State.setCycles_dotCount (v : Nat) (s : State) : (s.setCycles v).dotCount = s.dotCount := rfl
@[simp] theorem State.setCycles_config (v : Nat) (s : State) : (s.setCycles v).config = s.config := rfl

/-! ## `setDmaStall` -/

@[simp] theorem State.setDmaStall_cpu_a (v : Nat) (s : State) : (s.setDmaStall v).cpu.a = s.cpu.a := rfl
@[simp] theorem State.setDmaStall_cpu_x (v : Nat) (s : State) : (s.setDmaStall v).cpu.x = s.cpu.x := rfl
@[simp] theorem State.setDmaStall_cpu_y (v : Nat) (s : State) : (s.setDmaStall v).cpu.y = s.cpu.y := rfl
@[simp] theorem State.setDmaStall_cpu_sp (v : Nat) (s : State) : (s.setDmaStall v).cpu.sp = s.cpu.sp := rfl
@[simp] theorem State.setDmaStall_cpu_p (v : Nat) (s : State) : (s.setDmaStall v).cpu.p = s.cpu.p := rfl
@[simp] theorem State.setDmaStall_cpu_pc (v : Nat) (s : State) : (s.setDmaStall v).cpu.pc = s.cpu.pc := rfl
@[simp] theorem State.setDmaStall_cpu_opcode (v : Nat) (s : State) : (s.setDmaStall v).cpu.opcode = s.cpu.opcode := rfl
@[simp] theorem State.setDmaStall_cpu_fetched (v : Nat) (s : State) : (s.setDmaStall v).cpu.fetched = s.cpu.fetched := rfl
@[simp] theorem State.setDmaStall_cpu_addrAbs (v : Nat) (s : State) : (s.setDmaStall v).cpu.addrAbs = s.cpu.addrAbs := rfl
@[simp] theorem State.setDmaStall_cpu_addrRel (v : Nat) (s : State) : (s.setDmaStall v).cpu.addrRel = s.cpu.addrRel := rfl
@[simp] theorem State.setDmaStall_cpu_cycles (v : Nat) (s : State) : (s.setDmaStall v).cpu.cycles = s.cpu.cycles := rfl
@[simp] theorem State.setDmaStall_cpu_nmiPending (v : Nat) (s : State) : (s.setDmaStall v).cpu.nmiPending = s.cpu.nmiPending := rfl
@[simp] theorem State.setDmaStall_cpu_irqPending (v : Nat) (s : State) : (s.setDmaStall v).cpu.irqPending = s.cpu.irqPending := rfl
@[simp] theorem State.setDmaStall_cpu_totalCycles (v : Nat) (s : State) : (s.setDmaStall v).cpu.totalCycles = s.cpu.totalCycles := rfl
@[simp] theorem State.setDmaStall_cpu_dmaStall (v : Nat) (s : State) : (s.setDmaStall v).cpu.dmaStall = v := rfl
@[simp] theorem State.setDmaStall_ppu (v : Nat) (s : State) : (s.setDmaStall v).ppu = s.ppu := rfl
@[simp] theorem State.setDmaStall_apu (v : Nat) (s : State) : (s.setDmaStall v).apu = s.apu := rfl
@[simp] theorem State.setDmaStall_ctrl (v : Nat) (s : State) : (s.setDmaStall v).ctrl = s.ctrl := rfl
@[simp] theorem State.setDmaStall_ram (v : Nat) (s : State) : (s.setDmaStall v).ram = s.ram := rfl
@[simp] theorem State.setDmaStall_cart (v : Nat) (s : State) : (s.setDmaStall v).cart = s.cart := rfl
@[simp] theorem State.setDmaStall_dotCount (v : Nat) (s : State) : (s.setDmaStall v).dotCount = s.dotCount := rfl
@[simp] theorem State.setDmaStall_config (v : Nat) (s : State) : (s.setDmaStall v).config = s.config := rfl

/-! ## `setNmiPending` -/

@[simp] theorem State.setNmiPending_cpu_a (v : Bool) (s : State) : (s.setNmiPending v).cpu.a = s.cpu.a := rfl
@[simp] theorem State.setNmiPending_cpu_x (v : Bool) (s : State) : (s.setNmiPending v).cpu.x = s.cpu.x := rfl
@[simp] theorem State.setNmiPending_cpu_y (v : Bool) (s : State) : (s.setNmiPending v).cpu.y = s.cpu.y := rfl
@[simp] theorem State.setNmiPending_cpu_sp (v : Bool) (s : State) : (s.setNmiPending v).cpu.sp = s.cpu.sp := rfl
@[simp] theorem State.setNmiPending_cpu_p (v : Bool) (s : State) : (s.setNmiPending v).cpu.p = s.cpu.p := rfl
@[simp] theorem State.setNmiPending_cpu_pc (v : Bool) (s : State) : (s.setNmiPending v).cpu.pc = s.cpu.pc := rfl
@[simp] theorem State.setNmiPending_cpu_opcode (v : Bool) (s : State) : (s.setNmiPending v).cpu.opcode = s.cpu.opcode := rfl
@[simp] theorem State.setNmiPending_cpu_fetched (v : Bool) (s : State) : (s.setNmiPending v).cpu.fetched = s.cpu.fetched := rfl
@[simp] theorem State.setNmiPending_cpu_addrAbs (v : Bool) (s : State) : (s.setNmiPending v).cpu.addrAbs = s.cpu.addrAbs := rfl
@[simp] theorem State.setNmiPending_cpu_addrRel (v : Bool) (s : State) : (s.setNmiPending v).cpu.addrRel = s.cpu.addrRel := rfl
@[simp] theorem State.setNmiPending_cpu_cycles (v : Bool) (s : State) : (s.setNmiPending v).cpu.cycles = s.cpu.cycles := rfl
@[simp] theorem State.setNmiPending_cpu_nmiPending (v : Bool) (s : State) : (s.setNmiPending v).cpu.nmiPending = v := rfl
@[simp] theorem State.setNmiPending_cpu_irqPending (v : Bool) (s : State) : (s.setNmiPending v).cpu.irqPending = s.cpu.irqPending := rfl
@[simp] theorem State.setNmiPending_cpu_totalCycles (v : Bool) (s : State) : (s.setNmiPending v).cpu.totalCycles = s.cpu.totalCycles := rfl
@[simp] theorem State.setNmiPending_cpu_dmaStall (v : Bool) (s : State) : (s.setNmiPending v).cpu.dmaStall = s.cpu.dmaStall := rfl
@[simp] theorem State.setNmiPending_ppu (v : Bool) (s : State) : (s.setNmiPending v).ppu = s.ppu := rfl
@[simp] theorem State.setNmiPending_apu (v : Bool) (s : State) : (s.setNmiPending v).apu = s.apu := rfl
@[simp] theorem State.setNmiPending_ctrl (v : Bool) (s : State) : (s.setNmiPending v).ctrl = s.ctrl := rfl
@[simp] theorem State.setNmiPending_ram (v : Bool) (s : State) : (s.setNmiPending v).ram = s.ram := rfl
@[simp] theorem State.setNmiPending_cart (v : Bool) (s : State) : (s.setNmiPending v).cart = s.cart := rfl
@[simp] theorem State.setNmiPending_dotCount (v : Bool) (s : State) : (s.setNmiPending v).dotCount = s.dotCount := rfl
@[simp] theorem State.setNmiPending_config (v : Bool) (s : State) : (s.setNmiPending v).config = s.config := rfl

/-! ## `setIrqPending` -/

@[simp] theorem State.setIrqPending_cpu_a (v : Bool) (s : State) : (s.setIrqPending v).cpu.a = s.cpu.a := rfl
@[simp] theorem State.setIrqPending_cpu_x (v : Bool) (s : State) : (s.setIrqPending v).cpu.x = s.cpu.x := rfl
@[simp] theorem State.setIrqPending_cpu_y (v : Bool) (s : State) : (s.setIrqPending v).cpu.y = s.cpu.y := rfl
@[simp] theorem State.setIrqPending_cpu_sp (v : Bool) (s : State) : (s.setIrqPending v).cpu.sp = s.cpu.sp := rfl
@[simp] theorem State.setIrqPending_cpu_p (v : Bool) (s : State) : (s.setIrqPending v).cpu.p = s.cpu.p := rfl
@[simp] theorem State.setIrqPending_cpu_pc (v : Bool) (s : State) : (s.setIrqPending v).cpu.pc = s.cpu.pc := rfl
@[simp] theorem State.setIrqPending_cpu_opcode (v : Bool) (s : State) : (s.setIrqPending v).cpu.opcode = s.cpu.opcode := rfl
@[simp] theorem State.setIrqPending_cpu_fetched (v : Bool) (s : State) : (s.setIrqPending v).cpu.fetched = s.cpu.fetched := rfl
@[simp] theorem State.setIrqPending_cpu_addrAbs (v : Bool) (s : State) : (s.setIrqPending v).cpu.addrAbs = s.cpu.addrAbs := rfl
@[simp] theorem State.setIrqPending_cpu_addrRel (v : Bool) (s : State) : (s.setIrqPending v).cpu.addrRel = s.cpu.addrRel := rfl
@[simp] theorem State.setIrqPending_cpu_cycles (v : Bool) (s : State) : (s.setIrqPending v).cpu.cycles = s.cpu.cycles := rfl
@[simp] theorem State.setIrqPending_cpu_nmiPending (v : Bool) (s : State) : (s.setIrqPending v).cpu.nmiPending = s.cpu.nmiPending := rfl
@[simp] theorem State.setIrqPending_cpu_irqPending (v : Bool) (s : State) : (s.setIrqPending v).cpu.irqPending = v := rfl
@[simp] theorem State.setIrqPending_cpu_totalCycles (v : Bool) (s : State) : (s.setIrqPending v).cpu.totalCycles = s.cpu.totalCycles := rfl
@[simp] theorem State.setIrqPending_cpu_dmaStall (v : Bool) (s : State) : (s.setIrqPending v).cpu.dmaStall = s.cpu.dmaStall := rfl
@[simp] theorem State.setIrqPending_ppu (v : Bool) (s : State) : (s.setIrqPending v).ppu = s.ppu := rfl
@[simp] theorem State.setIrqPending_apu (v : Bool) (s : State) : (s.setIrqPending v).apu = s.apu := rfl
@[simp] theorem State.setIrqPending_ctrl (v : Bool) (s : State) : (s.setIrqPending v).ctrl = s.ctrl := rfl
@[simp] theorem State.setIrqPending_ram (v : Bool) (s : State) : (s.setIrqPending v).ram = s.ram := rfl
@[simp] theorem State.setIrqPending_cart (v : Bool) (s : State) : (s.setIrqPending v).cart = s.cart := rfl
@[simp] theorem State.setIrqPending_dotCount (v : Bool) (s : State) : (s.setIrqPending v).dotCount = s.dotCount := rfl
@[simp] theorem State.setIrqPending_config (v : Bool) (s : State) : (s.setIrqPending v).config = s.config := rfl

/-! ## `setFlag` -/

@[simp] theorem State.setFlag_cpu_a (f : Flag) (v : Bool) (s : State) : (s.setFlag f v).cpu.a = s.cpu.a := rfl
@[simp] theorem State.setFlag_cpu_x (f : Flag) (v : Bool) (s : State) : (s.setFlag f v).cpu.x = s.cpu.x := rfl
@[simp] theorem State.setFlag_cpu_y (f : Flag) (v : Bool) (s : State) : (s.setFlag f v).cpu.y = s.cpu.y := rfl
@[simp] theorem State.setFlag_cpu_sp (f : Flag) (v : Bool) (s : State) : (s.setFlag f v).cpu.sp = s.cpu.sp := rfl
@[simp] theorem State.setFlag_cpu_p (f : Flag) (v : Bool) (s : State) : (s.setFlag f v).cpu.p = putFlag f v s.cpu.p := rfl
@[simp] theorem State.setFlag_cpu_pc (f : Flag) (v : Bool) (s : State) : (s.setFlag f v).cpu.pc = s.cpu.pc := rfl
@[simp] theorem State.setFlag_cpu_opcode (f : Flag) (v : Bool) (s : State) : (s.setFlag f v).cpu.opcode = s.cpu.opcode := rfl
@[simp] theorem State.setFlag_cpu_fetched (f : Flag) (v : Bool) (s : State) : (s.setFlag f v).cpu.fetched = s.cpu.fetched := rfl
@[simp] theorem State.setFlag_cpu_addrAbs (f : Flag) (v : Bool) (s : State) : (s.setFlag f v).cpu.addrAbs = s.cpu.addrAbs := rfl
@[simp] theorem State.setFlag_cpu_addrRel (f : Flag) (v : Bool) (s : State) : (s.setFlag f v).cpu.addrRel = s.cpu.addrRel := rfl
@[simp] theorem State.setFlag_cpu_cycles (f : Flag) (v : Bool) (s : State) : (s.setFlag f v).cpu.cycles = s.cpu.cycles := rfl
@[simp] theorem State.setFlag_cpu_nmiPending (f : Flag) (v : Bool) (s : State) : (s.setFlag f v).cpu.nmiPending = s.cpu.nmiPending := rfl
@[simp] theorem State.setFlag_cpu_irqPending (f : Flag) (v : Bool) (s : State) : (s.setFlag f v).cpu.irqPending = s.cpu.irqPending := rfl
@[simp] theorem State.setFlag_cpu_totalCycles (f : Flag) (v : Bool) (s : State) : (s.setFlag f v).cpu.totalCycles = s.cpu.totalCycles := rfl
@[simp] theorem State.setFlag_cpu_dmaStall (f : Flag) (v : Bool) (s : State) : (s.setFlag f v).cpu.dmaStall = s.cpu.dmaStall := rfl
@[simp] theorem State.setFlag_ppu (f : Flag) (v : Bool) (s : State) : (s.setFlag f v).ppu = s.ppu := rfl
@[simp] theorem State.setFlag_apu (f : Flag) (v : Bool) (s : State) : (s.setFlag f v).apu = s.apu := rfl
@[simp] theorem State.setFlag_ctrl (f : Flag) (v : Bool) (s : State) : (s.setFlag f v).ctrl = s.ctrl := rfl
@[simp] theorem State.setFlag_ram (f : Flag) (v : Bool) (s : State) : (s.setFlag f v).ram = s.ram := rfl
@[simp] theorem State.setFlag_cart (f : Flag) (v : Bool) (s : State) : (s.setFlag f v).cart = s.cart := rfl
@[simp] theorem State.setFlag_dotCount (f : Flag) (v : Bool) (s : State) : (s.setFlag f v).dotCount = s.dotCount := rfl
@[simp] theorem State.setFlag_config (f : Flag) (v : Bool) (s : State) : (s.setFlag f v).config = s.config := rfl

/-! ## `mapPpu` -/

@[simp] theorem State.mapPpu_cpu (f : Ppu → Ppu) (s : State) : (s.mapPpu f).cpu = s.cpu := rfl
@[simp] theorem State.mapPpu_ppu (f : Ppu → Ppu) (s : State) : (s.mapPpu f).ppu = f s.ppu := rfl
@[simp] theorem State.mapPpu_apu (f : Ppu → Ppu) (s : State) : (s.mapPpu f).apu = s.apu := rfl
@[simp] theorem State.mapPpu_ctrl (f : Ppu → Ppu) (s : State) : (s.mapPpu f).ctrl = s.ctrl := rfl
@[simp] theorem State.mapPpu_ram (f : Ppu → Ppu) (s : State) : (s.mapPpu f).ram = s.ram := rfl
@[simp] theorem State.mapPpu_cart (f : Ppu → Ppu) (s : State) : (s.mapPpu f).cart = s.cart := rfl
@[simp] theorem State.mapPpu_dotCount (f : Ppu → Ppu) (s : State) : (s.mapPpu f).dotCount = s.dotCount := rfl
@[simp] theorem State.mapPpu_config (f : Ppu → Ppu) (s : State) : (s.mapPpu f).config = s.config := rfl

/-! ## `mapApu` -/

@[simp] theorem State.mapApu_cpu (f : Apu → Apu) (s : State) : (s.mapApu f).cpu = s.cpu := rfl
@[simp] theorem State.mapApu_ppu (f : Apu → Apu) (s : State) : (s.mapApu f).ppu = s.ppu := rfl
@[simp] theorem State.mapApu_apu (f : Apu → Apu) (s : State) : (s.mapApu f).apu = f s.apu := rfl
@[simp] theorem State.mapApu_ctrl (f : Apu → Apu) (s : State) : (s.mapApu f).ctrl = s.ctrl := rfl
@[simp] theorem State.mapApu_ram (f : Apu → Apu) (s : State) : (s.mapApu f).ram = s.ram := rfl
@[simp] theorem State.mapApu_cart (f : Apu → Apu) (s : State) : (s.mapApu f).cart = s.cart := rfl
@[simp] theorem State.mapApu_dotCount (f : Apu → Apu) (s : State) : (s.mapApu f).dotCount = s.dotCount := rfl
@[simp] theorem State.mapApu_config (f : Apu → Apu) (s : State) : (s.mapApu f).config = s.config := rfl

/-! ## `mapCart` and `writeRam` -/

@[simp] theorem State.mapCart_cpu (f : Cart → Cart) (s : State) : (s.mapCart f).cpu = s.cpu := rfl
@[simp] theorem State.mapCart_ppu (f : Cart → Cart) (s : State) : (s.mapCart f).ppu = s.ppu := rfl
@[simp] theorem State.mapCart_apu (f : Cart → Cart) (s : State) : (s.mapCart f).apu = s.apu := rfl
@[simp] theorem State.mapCart_ctrl (f : Cart → Cart) (s : State) : (s.mapCart f).ctrl = s.ctrl := rfl
@[simp] theorem State.mapCart_ram (f : Cart → Cart) (s : State) : (s.mapCart f).ram = s.ram := rfl
@[simp] theorem State.mapCart_cart (f : Cart → Cart) (s : State) : (s.mapCart f).cart = s.cart.map f := rfl
@[simp] theorem State.mapCart_dotCount (f : Cart → Cart) (s : State) : (s.mapCart f).dotCount = s.dotCount := rfl
@[simp] theorem State.mapCart_config (f : Cart → Cart) (s : State) : (s.mapCart f).config = s.config := rfl
@[simp] theorem State.writeRam_cpu (s : State) (a : Word) (v : Byte) : (s.writeRam a v).cpu = s.cpu := rfl
@[simp] theorem State.writeRam_ppu (s : State) (a : Word) (v : Byte) : (s.writeRam a v).ppu = s.ppu := rfl
@[simp] theorem State.writeRam_apu (s : State) (a : Word) (v : Byte) : (s.writeRam a v).apu = s.apu := rfl
@[simp] theorem State.writeRam_ctrl (s : State) (a : Word) (v : Byte) : (s.writeRam a v).ctrl = s.ctrl := rfl
@[simp] theorem State.writeRam_ram (s : State) (a : Word) (v : Byte) : (s.writeRam a v).ram = s.ram.write (ramIndex a) v := rfl
@[simp] theorem State.writeRam_cart (s : State) (a : Word) (v : Byte) : (s.writeRam a v).cart = s.cart := rfl
@[simp] theorem State.writeRam_dotCount (s : State) (a : Word) (v : Byte) : (s.writeRam a v).dotCount = s.dotCount := rfl
@[simp] theorem State.writeRam_config (s : State) (a : Word) (v : Byte) : (s.writeRam a v).config = s.config := rfl

/-! ## The counters of the clock and the tick -/

@[simp] theorem countClock_cpu_a (s : State) : (countClock s).cpu.a = s.cpu.a := rfl
@[simp] theorem countClock_cpu_x (s : State) : (countClock s).cpu.x = s.cpu.x := rfl
@[simp] theorem countClock_cpu_y (s : State) : (countClock s).cpu.y = s.cpu.y := rfl
@[simp] theorem countClock_cpu_sp (s : State) : (countClock s).cpu.sp = s.cpu.sp := rfl
@[simp] theorem countClock_cpu_p (s : State) : (countClock s).cpu.p = s.cpu.p := rfl
@[simp] theorem countClock_cpu_pc (s : State) : (countClock s).cpu.pc = s.cpu.pc := rfl
@[simp] theorem countClock_cpu_opcode (s : State) : (countClock s).cpu.opcode = s.cpu.opcode := rfl
@[simp] theorem countClock_cpu_fetched (s : State) : (countClock s).cpu.fetched = s.cpu.fetched := rfl
@[simp] theorem countClock_cpu_addrAbs (s : State) : (countClock s).cpu.addrAbs = s.cpu.addrAbs := rfl
@[simp] theorem countClock_cpu_addrRel (s : State) : (countClock s).cpu.addrRel = s.cpu.addrRel := rfl
@[simp] theorem countClock_cpu_cycles (s : State) : (countClock s).cpu.cycles = s.cpu.cycles - 1 := rfl
@[simp] theorem countClock_cpu_nmiPending (s : State) : (countClock s).cpu.nmiPending = s.cpu.nmiPending := rfl
@[simp] theorem countClock_cpu_irqPending (s : State) : (countClock s).cpu.irqPending = s.cpu.irqPending := rfl
@[simp] theorem countClock_cpu_totalCycles (s : State) : (countClock s).cpu.totalCycles = s.cpu.totalCycles + 1 := rfl
@[simp] theorem countClock_cpu_dmaStall (s : State) : (countClock s).cpu.dmaStall = s.cpu.dmaStall := rfl
@[simp] theorem countClock_ppu (s : State) : (countClock s).ppu = s.ppu := rfl
@[simp] theorem countClock_apu (s : State) : (countClock s).apu = s.apu := rfl
@[simp] theorem countClock_ctrl (s : State) : (countClock s).ctrl = s.ctrl := rfl
@[simp] theorem countClock_ram (s : State) : (countClock s).ram = s.ram := rfl
@[simp] theorem countClock_cart (s : State) : (countClock s).cart = s.cart := rfl
@[simp] theorem countClock_dotCount (s : State) : (countClock s).dotCount = s.dotCount := rfl
@[simp] theorem countClock_config (s : State) : (countClock s).config = s.config := rfl
@[simp] theorem countDot_cpu (s : State) : (countDot s).cpu = s.cpu := rfl
@[simp] theorem countDot_ppu (s : State) : (countDot s).ppu = s.ppu := rfl
@[simp] theorem countDot_apu (s : State) : (countDot s).apu = s.apu := rfl
@[simp] theorem countDot_ctrl (s : State) : (countDot s).ctrl = s.ctrl := rfl
@[simp] theorem countDot_ram (s : State) : (countDot s).ram = s.ram := rfl
@[simp] theorem countDot_cart (s : State) : (countDot s).cart = s.cart := rfl
@[simp] theorem countDot_dotCount (s : State) : (countDot s).dotCount = s.dotCount + 1 := rfl
@[simp] theorem countDot_config (s : State) : (countDot s).config = s.config := rfl

/-! ## The CPU replaced -/

/-- The state with another CPU; the setters of the CPU registers are of this form. -/
def State.withCpu (c : Cpu) (s : State) : State := { s with cpu := c }

@[simp] theorem State.withCpu_cpu (c : Cpu) (s : State) : (s.withCpu c).cpu = c := rfl
@[simp] theorem State.withCpu_ppu (c : Cpu) (s : State) : (s.withCpu c).ppu = s.ppu := rfl
@[simp] theorem State.withCpu_apu (c : Cpu) (s : State) : (s.withCpu c).apu = s.apu := rfl
@[simp] theorem State.withCpu_ctrl (c : Cpu) (s : State) : (s.withCpu c).ctrl = s.ctrl := rfl
@[simp] theorem State.withCpu_ram (c : Cpu) (s : State) : (s.withCpu c).ram = s.ram := rfl
@[simp] theorem State.withCpu_cart (c : Cpu) (s : State) : (s.withCpu c).cart = s.cart := rfl
@[simp] theorem State.withCpu_dotCount (c : Cpu) (s : State) : (s.withCpu c).dotCount = s.dotCount := rfl
@[simp] theorem State.withCpu_config (c : Cpu) (s : State) : (s.withCpu c).config = s.config := rfl
@[simp] theorem State.withCpu_withCpu (c d : Cpu) (s : State) : (s.withCpu c).withCpu d = s.withCpu d := rfl
@[simp] theorem State.withCpu_self (s : State) : s.withCpu s.cpu = s := rfl

/-- A change of the PPU commutes with a change of the CPU. -/
theorem State.mapPpu_withCpu (f : Ppu → Ppu) (c : Cpu) (s : State) :
    (s.withCpu c).mapPpu f = (s.mapPpu f).withCpu c := rfl

/-- A change of the APU commutes with a change of the CPU. -/
theorem State.mapApu_withCpu (f : Apu → Apu) (c : Cpu) (s : State) :
    (s.withCpu c).mapApu f = (s.mapApu f).withCpu c := rfl

/-! ## Outcomes -/

@[simp] theorem mapNext_next (f : State → State) (s : State) : mapNext f (.next s) = .next (f s) := rfl

@[simp] theorem applyWhen_true {α : Type} (f : α → α) (x : α) : applyWhen true f x = f x := rfl

@[simp] theorem applyWhen_false {α : Type} (f : α → α) (x : α) : applyWhen false f x = x := rfl

end Sys2Proof.Machine
end

