-- ==== Sys2Proof/Laws/Bus.lean ====
section
/-! SUPPORT. What a CPU bus read and a CPU bus write can do, said once: the inversion lemmas, what they leave
alone, and that neither looks at the CPU registers. -/

namespace Sys2Proof.Machine

/-! ## PPU accesses -/

@[simp] theorem mapperObserve_cpu (a : Word) (s : State) : (mapperObserve a s).cpu = s.cpu := rfl
@[simp] theorem mapperObserve_ppu (a : Word) (s : State) : (mapperObserve a s).ppu = s.ppu := rfl
@[simp] theorem mapperObserve_apu (a : Word) (s : State) : (mapperObserve a s).apu = s.apu := rfl
@[simp] theorem mapperObserve_ctrl (a : Word) (s : State) : (mapperObserve a s).ctrl = s.ctrl := rfl
@[simp] theorem mapperObserve_ram (a : Word) (s : State) : (mapperObserve a s).ram = s.ram := rfl
@[simp] theorem mapperObserve_dotCount (a : Word) (s : State) : (mapperObserve a s).dotCount = s.dotCount := rfl
@[simp] theorem mapperObserve_config (a : Word) (s : State) : (mapperObserve a s).config = s.config := rfl

/-- A PPU read changes at most the mapper, by an observation. -/
theorem ppuRead_state (a : Word) (s : State) :
    (ppuRead a s).1 = s ∨ (ppuRead a s).1 = mapperObserve (a &&& 0x3FFF) s := by
  unfold ppuRead
  dsimp only
  split
  · split
    · exact .inr rfl
    · exact .inr rfl
  · exact .inl rfl

@[simp] theorem ppuRead_cpu (a : Word) (s : State) : (ppuRead a s).1.cpu = s.cpu := by
  rcases ppuRead_state a s with h | h <;> simp [h]
@[simp] theorem ppuRead_ppu (a : Word) (s : State) : (ppuRead a s).1.ppu = s.ppu := by
  rcases ppuRead_state a s with h | h <;> simp [h]
@[simp] theorem ppuRead_apu (a : Word) (s : State) : (ppuRead a s).1.apu = s.apu := by
  rcases ppuRead_state a s with h | h <;> simp [h]
@[simp] theorem ppuRead_ctrl (a : Word) (s : State) : (ppuRead a s).1.ctrl = s.ctrl := by
  rcases ppuRead_state a s with h | h <;> simp [h]
@[simp] theorem ppuRead_ram (a : Word) (s : State) : (ppuRead a s).1.ram = s.ram := by
  rcases ppuRead_state a s with h | h <;> simp [h]
@[simp] theorem ppuRead_dotCount (a : Word) (s : State) : (ppuRead a s).1.dotCount = s.dotCount := by
  rcases ppuRead_state a s with h | h <;> simp [h]
@[simp] theorem ppuRead_config (a : Word) (s : State) : (ppuRead a s).1.config = s.config := by
  rcases ppuRead_state a s with h | h <;> simp [h]

/-- A PPU read does not look at the CPU. -/
theorem ppuRead_withCpu (a : Word) (s : State) (c : Cpu) :
    ppuRead a (s.withCpu c) = ((ppuRead a s).1.withCpu c, (ppuRead a s).2) := by
  unfold ppuRead
  dsimp only
  split
  · split <;> rfl
  · rfl

/-- A PPU write does not look at the CPU. -/
theorem ppuWrite_withCpu (a : Word) (v : Byte) (s : State) (c : Cpu) :
    ppuWrite a v (s.withCpu c) = (ppuWrite a v s).withCpu c := by
  unfold ppuWrite
  dsimp only
  split
  · split <;> rfl
  · rfl

/-! ## CPU bus reads -/

/-- What a CPU bus read does to the state: nothing, or the side effect of one of the five registers that have
one (R115). -/
theorem memRead_cases (a : Word) (s : State) :
    (memRead a s).1 = s ∨ (memRead a s).1 = (readStatus s).1 ∨ (memRead a s).1 = (readData s).1 ∨
      (memRead a s).1 = (apuStatusRead s).1 ∨ ∃ b, (memRead a s).1 = (controllerRead b s).1 := by
  unfold memRead
  split
  · exact .inl rfl
  · split
    · exact .inl rfl
    · split
      · unfold ppuRegRead
        split
        · exact .inr (.inl rfl)
        · exact .inl rfl
        · exact .inr (.inr (.inl rfl))
        · exact .inl rfl
      · split
        · exact .inr (.inr (.inr (.inl rfl)))
        · split
          · exact .inr (.inr (.inr (.inr ⟨false, rfl⟩)))
          · split
            · exact .inr (.inr (.inr (.inr ⟨true, rfl⟩)))
            · exact .inl rfl

/-- The state after a PPUDATA read. -/
theorem readData_state (s : State) :
    ∃ a b, (readData s).1 =
      ((ppuRead a s).1.mapPpu fun p => { p with dataBuffer := b }.advanceV) := by
  unfold readData
  dsimp only
  split
  · exact ⟨_, _, rfl⟩
  · exact ⟨_, _, rfl⟩

/-- A read of an address that is no device register changes nothing. -/
theorem memRead_quiet (a : Word) (s : State) (h : ¬ (0x2000 ≤ a.toNat ∧ a.toNat ≤ 0x401F)) :
    (memRead a s).1 = s := by
  unfold memRead
  split
  · rfl
  · split
    · rfl
    · omega

@[simp] theorem memRead_cpu (a : Word) (s : State) : (memRead a s).1.cpu = s.cpu := by
  rcases memRead_cases a s with h | h | h | h | ⟨b, h⟩ <;> rw [h]
  · rfl
  · obtain ⟨a', b', h'⟩ := readData_state s
    rw [h']
    simp
  · rfl
  · cases b <;> rfl
@[simp] theorem memRead_ram (a : Word) (s : State) : (memRead a s).1.ram = s.ram := by
  rcases memRead_cases a s with h | h | h | h | ⟨b, h⟩ <;> rw [h]
  · rfl
  · obtain ⟨a', b', h'⟩ := readData_state s
    rw [h']
    simp
  · rfl
  · cases b <;> rfl
@[simp] theorem memRead_dotCount (a : Word) (s : State) : (memRead a s).1.dotCount = s.dotCount := by
  rcases memRead_cases a s with h | h | h | h | ⟨b, h⟩ <;> rw [h]
  · rfl
  · obtain ⟨a', b', h'⟩ := readData_state s
    rw [h']
    simp
  · rfl
  · cases b <;> rfl
@[simp] theorem memRead_config (a : Word) (s : State) : (memRead a s).1.config = s.config := by
  rcases memRead_cases a s with h | h | h | h | ⟨b, h⟩ <;> rw [h]
  · rfl
  · obtain ⟨a', b', h'⟩ := readData_state s
    rw [h']
    simp
  · rfl
  · cases b <;> rfl

/-- A bus read moves a cartridge at most by one observation of the PPU bus. -/
theorem memRead_cart (a : Word) (s : State) :
    (memRead a s).1.cart = s.cart ∨ ∃ p, (memRead a s).1.cart = (mapperObserve p s).cart := by
  rcases memRead_cases a s with h | h | h | h | ⟨b, h⟩ <;> rw [h]
  · exact .inl rfl
  · exact .inl rfl
  · obtain ⟨a', b', h'⟩ := readData_state s
    rw [h']
    rcases ppuRead_state a' s with hp | hp
    · left
      rw [State.mapPpu_cart, hp]
    · right
      exact ⟨_, by rw [State.mapPpu_cart, hp]⟩
  · exact .inl rfl
  · cases b <;> exact .inl rfl

/-- A bus read leaves the PPU's memories, its position, its sprites and its scroll latch `t` alone. -/
theorem memRead_ppu (a : Word) (s : State) :
    ∃ vb w b v, (memRead a s).1.ppu = { s.ppu with vblank := vb, w := w, dataBuffer := b, v := v } := by
  rcases memRead_cases a s with h | h | h | h | ⟨b, h⟩ <;> rw [h]
  · exact ⟨_, _, _, _, rfl⟩
  · exact ⟨_, _, _, _, rfl⟩
  · obtain ⟨a', b', h'⟩ := readData_state s
    rw [h']
    refine ⟨s.ppu.vblank, s.ppu.w, b', s.ppu.v + s.ppu.increment, ?_⟩
    rw [State.mapPpu_ppu, ppuRead_ppu]
    rfl
  · exact ⟨_, _, _, _, rfl⟩
  · cases b <;> exact ⟨_, _, _, _, rfl⟩

/-- The result of a `let`-bound PPU read with the CPU replaced. -/
theorem readData_withCpu (s : State) (c : Cpu) :
    readData (s.withCpu c) = ((readData s).1.withCpu c, (readData s).2) := by
  unfold readData
  dsimp only
  by_cases h : 0x3F00 ≤ s.ppu.vAddr.toNat
  · have h' : 0x3F00 ≤ (s.withCpu c).ppu.vAddr.toNat := h
    rw [if_pos h, if_pos h', ppuRead_withCpu]
    rfl
  · have h' : ¬ 0x3F00 ≤ (s.withCpu c).ppu.vAddr.toNat := h
    rw [if_neg h, if_neg h', ppuRead_withCpu]
    rfl

/-- A bus read does not look at the CPU registers. -/
theorem memRead_withCpu (a : Word) (s : State) (c : Cpu) :
    memRead a (s.withCpu c) = ((memRead a s).1.withCpu c, (memRead a s).2) := by
  unfold memRead
  split
  · rfl
  · split
    · rfl
    · split
      · unfold ppuRegRead
        split
        · rfl
        · rfl
        · exact readData_withCpu s c
        · rfl
      · split
        · rfl
        · split
          · rfl
          · split <;> rfl

/-! ## CPU bus writes -/

/-- A write of an address that is no device register reaches internal RAM or the cartridge alone. -/
theorem memWrite_quiet (a : Word) (v : Byte) (s : State) (h : ¬ (0x2000 ≤ a.toNat ∧ a.toNat ≤ 0x401F)) :
    memWrite a v s = if a.toNat ≤ 0x1FFF then s.writeRam a v else s.mapCart fun c => c.cpuWrite a v := by
  unfold memWrite
  split
  · rw [if_neg (by omega)]
  · split
    · rfl
    · omega

/-- The OAM copy changes nothing of the CPU. -/
theorem oamCopy_withCpu (p : Byte) (l : List Nat) (s : State) (c : Cpu) :
    oamCopy p l (s.withCpu c) = (oamCopy p l s).withCpu c := by
  induction l generalizing s with
  | nil => rfl
  | cons i rest ih =>
    unfold oamCopy
    simp only [memRead_withCpu, State.mapPpu_withCpu]
    exact ih _

@[simp] theorem oamCopy_cpu (p : Byte) (l : List Nat) (s : State) : (oamCopy p l s).cpu = s.cpu := by
  induction l generalizing s with
  | nil => rfl
  | cons i rest ih =>
    unfold oamCopy
    simp [ih]

/-- The DMA stall that a write leaves in a CPU. -/
def stallAfter (a : Word) (c : Cpu) : Nat :=
  if a.toNat = 0x4014 then 513 + c.totalCycles.toNat % 2 else c.dmaStall

/-- A bus write does not look at the CPU registers, but OAM DMA reads `total_cycles` and sets the stall. -/
theorem memWrite_withCpu (a : Word) (v : Byte) (s : State) (c : Cpu) :
    memWrite a v (s.withCpu c) =
      (memWrite a v s).withCpu { c with dmaStall := stallAfter a c } := by
  unfold memWrite stallAfter
  by_cases h1 : 0x4020 ≤ a.toNat
  · rw [if_pos h1, if_pos h1, if_neg (by omega)]
    rfl
  rw [if_neg h1, if_neg h1]
  by_cases h2 : a.toNat ≤ 0x1FFF
  · rw [if_pos h2, if_pos h2, if_neg (by omega)]
    rfl
  rw [if_neg h2, if_neg h2]
  by_cases h3 : a.toNat ≤ 0x3FFF
  · rw [if_pos h3, if_pos h3, if_neg (by omega)]
    unfold ppuRegWrite
    split
    · rfl
    · rfl
    · rfl
    · rfl
    · rfl
    · rfl
    · unfold writeData
      rw [ppuWrite_withCpu]
      rfl
    · rfl
  rw [if_neg h3, if_neg h3]
  by_cases h4 : a.toNat = 0x4014
  · rw [if_pos h4, if_pos h4, if_pos h4]
    simp only [oamDma, oamCopy_withCpu, oamCopy_cpu, State.withCpu_cpu]
    rfl
  rw [if_neg h4, if_neg h4, if_neg h4]
  by_cases h5 : a.toNat = 0x4016
  · rw [if_pos h5, if_pos h5]
    rfl
  rw [if_neg h5, if_neg h5]
  by_cases h6 : a.toNat ≤ 0x4013 ∨ a.toNat = 0x4015 ∨ a.toNat = 0x4017
  · rw [if_pos h6, if_pos h6]
    exact State.mapApu_withCpu _ _ _
  · rw [if_neg h6, if_neg h6]

/-- The CPU after a bus write: only the DMA stall can have changed. -/
theorem memWrite_cpu (a : Word) (v : Byte) (s : State) :
    (memWrite a v s).cpu = { s.cpu with dmaStall := stallAfter a s.cpu } := by
  have h := memWrite_withCpu a v s s.cpu
  rw [State.withCpu_self] at h
  rw [h]
  rfl

end Sys2Proof.Machine
end

