-- ==== Sys2Proof/Laws/Exec.lean ====
section
/-! SUPPORT. `exec` said once: every instruction but the branches is `perform` of its table row, its addressing
mode and its operation; a branch is `performBranch` of its flag test. No proof about `exec` needs its 256 arms. -/

namespace Sys2Proof.Machine

/-- The bytes of a word, joined again. -/
theorem mkWord_hiByte_loByte (w : Word) : mkWord (hiByte w) (loByte w) = w := by
  apply BitVec.eq_of_toNat_eq
  simp only [mkWord, hiByte, loByte, BitVec.toNat_append, BitVec.extractLsb'_toNat]
  have := w.isLt
  rw [← Nat.shiftLeft_add_eq_or_of_lt (by omega)]
  simp [Nat.shiftLeft_eq, Nat.shiftRight_eq_div_pow]
  omega

theorem access_abs (w : Word) : access .abs (loByte w) (hiByte w) = modeAbs w := by
  rw [access, mkWord_hiByte_loByte]

theorem access_abx (w : Word) : access .abx (loByte w) (hiByte w) = modeAbx w := by
  rw [access, mkWord_hiByte_loByte]

theorem access_aby (w : Word) : access .aby (loByte w) (hiByte w) = modeAby w := by
  rw [access, mkWord_hiByte_loByte]

theorem access_ind (w : Word) : access .ind (loByte w) (hiByte w) = modeInd w := by
  rw [access, mkWord_hiByte_loByte]

/-- The operation of a mnemonic that is no branch; the NOPs do nothing here (see `instrWork`). -/
def operationOf (o : Operation) : Operand → State → State :=
  match o with
  | .brk => opBrk
  | .ora => opOra
  | .slo => opSlo
  | .asl => opAsl
  | .php => opPhp
  | .anc => opAnc
  | .clc => opClc
  | .jsr => opJsr
  | .and => opAnd
  | .rla => opRla
  | .bit => opBit
  | .rol => opRol
  | .plp => opPlp
  | .sec => opSec
  | .rti => opRti
  | .eor => opEor
  | .sre => opSre
  | .lsr => opLsr
  | .pha => opPha
  | .alr => opAlr
  | .jmp => opJmp
  | .cli => opCli
  | .rts => opRts
  | .adc => opAdc
  | .rra => opRra
  | .ror => opRor
  | .pla => opPla
  | .arr => opArr
  | .sei => opSei
  | .sta => opSta
  | .sax => opSax
  | .sty => opSty
  | .stx => opStx
  | .dey => opDey
  | .txa => opTxa
  | .tya => opTya
  | .txs => opTxs
  | .ldy => opLdy
  | .lda => opLda
  | .ldx => opLdx
  | .lax => opLax
  | .tay => opTay
  | .tax => opTax
  | .clv => opClv
  | .tsx => opTsx
  | .cpy => opCpy
  | .cmp => opCmp
  | .dcp => opDcp
  | .dec => opDec
  | .iny => opIny
  | .dex => opDex
  | .cld => opCld
  | .cpx => opCpx
  | .sbc => opSbc
  | .isc => opIsc
  | .inc => opInc
  | .inx => opInx
  | .sed => opSed
  | .nop | .xaa | .lxa | .jam | .sha | .tas | .shy | .shx | .las | .sbx | .usbc => opNothing
  | .bpl | .bmi | .bvc | .bvs | .bcc | .bcs | .bne | .beq => opNothing

/-- The operation of an instruction: a NOP with an operand reads and discards it (R361 to R371). -/
def instrWork (i : Instr) : Operand → State → State :=
  if (i.operation = .nop ∨ i.operation = .xaa ∨ i.operation = .lxa) ∧ i.mode ≠ .imp then opDiscard
  else operationOf i.operation

/-- The flag test of a branch (R307 to R314). -/
def branchTest (o : Operation) (s : State) : Bool :=
  match o with
  | .bcc => !s.flag .c
  | .bcs => s.flag .c
  | .bne => !s.flag .z
  | .beq => s.flag .z
  | .bpl => !s.flag .n
  | .bmi => s.flag .n
  | .bvc => !s.flag .v
  | _ => s.flag .v

set_option maxRecDepth 10000 in
/-- Every instruction but the branches. -/
theorem exec_eq (i : Instr) (s : State) (h : i.mode ≠ .rel) :
    exec i s = perform i.row.cycles i.row.paysCross (access i.mode i.operand1 i.operand2) (instrWork i) s := by
  cases i with
  | oraIzx w => rfl
  | sloIzx w => rfl
  | nopZp04 w => rfl
  | oraZp w => rfl
  | aslZp w => rfl
  | sloZp w => rfl
  | oraImm w => rfl
  | ancImm0B w => rfl
  | nopAbs w => exact congrArg (fun m => perform _ _ m _ s) (access_abs w).symm
  | oraAbs w => exact congrArg (fun m => perform _ _ m _ s) (access_abs w).symm
  | aslAbs w => exact congrArg (fun m => perform _ _ m _ s) (access_abs w).symm
  | sloAbs w => exact congrArg (fun m => perform _ _ m _ s) (access_abs w).symm
  | bpl w => exact absurd rfl h
  | oraIzy w => rfl
  | sloIzy w => rfl
  | nopZpx14 w => rfl
  | oraZpx w => rfl
  | aslZpx w => rfl
  | sloZpx w => rfl
  | oraAby w => exact congrArg (fun m => perform _ _ m _ s) (access_aby w).symm
  | sloAby w => exact congrArg (fun m => perform _ _ m _ s) (access_aby w).symm
  | nopAbx1C w => exact congrArg (fun m => perform _ _ m _ s) (access_abx w).symm
  | oraAbx w => exact congrArg (fun m => perform _ _ m _ s) (access_abx w).symm
  | aslAbx w => exact congrArg (fun m => perform _ _ m _ s) (access_abx w).symm
  | sloAbx w => exact congrArg (fun m => perform _ _ m _ s) (access_abx w).symm
  | jsr w => exact congrArg (fun m => perform _ _ m _ s) (access_abs w).symm
  | andIzx w => rfl
  | rlaIzx w => rfl
  | bitZp w => rfl
  | andZp w => rfl
  | rolZp w => rfl
  | rlaZp w => rfl
  | andImm w => rfl
  | ancImm2B w => rfl
  | bitAbs w => exact congrArg (fun m => perform _ _ m _ s) (access_abs w).symm
  | andAbs w => exact congrArg (fun m => perform _ _ m _ s) (access_abs w).symm
  | rolAbs w => exact congrArg (fun m => perform _ _ m _ s) (access_abs w).symm
  | rlaAbs w => exact congrArg (fun m => perform _ _ m _ s) (access_abs w).symm
  | bmi w => exact absurd rfl h
  | andIzy w => rfl
  | rlaIzy w => rfl
  | nopZpx34 w => rfl
  | andZpx w => rfl
  | rolZpx w => rfl
  | rlaZpx w => rfl
  | andAby w => exact congrArg (fun m => perform _ _ m _ s) (access_aby w).symm
  | rlaAby w => exact congrArg (fun m => perform _ _ m _ s) (access_aby w).symm
  | nopAbx3C w => exact congrArg (fun m => perform _ _ m _ s) (access_abx w).symm
  | andAbx w => exact congrArg (fun m => perform _ _ m _ s) (access_abx w).symm
  | rolAbx w => exact congrArg (fun m => perform _ _ m _ s) (access_abx w).symm
  | rlaAbx w => exact congrArg (fun m => perform _ _ m _ s) (access_abx w).symm
  | eorIzx w => rfl
  | sreIzx w => rfl
  | nopZp44 w => rfl
  | eorZp w => rfl
  | lsrZp w => rfl
  | sreZp w => rfl
  | eorImm w => rfl
  | alr w => rfl
  | jmpAbs w => exact congrArg (fun m => perform _ _ m _ s) (access_abs w).symm
  | eorAbs w => exact congrArg (fun m => perform _ _ m _ s) (access_abs w).symm
  | lsrAbs w => exact congrArg (fun m => perform _ _ m _ s) (access_abs w).symm
  | sreAbs w => exact congrArg (fun m => perform _ _ m _ s) (access_abs w).symm
  | bvc w => exact absurd rfl h
  | eorIzy w => rfl
  | sreIzy w => rfl
  | nopZpx54 w => rfl
  | eorZpx w => rfl
  | lsrZpx w => rfl
  | sreZpx w => rfl
  | eorAby w => exact congrArg (fun m => perform _ _ m _ s) (access_aby w).symm
  | sreAby w => exact congrArg (fun m => perform _ _ m _ s) (access_aby w).symm
  | nopAbx5C w => exact congrArg (fun m => perform _ _ m _ s) (access_abx w).symm
  | eorAbx w => exact congrArg (fun m => perform _ _ m _ s) (access_abx w).symm
  | lsrAbx w => exact congrArg (fun m => perform _ _ m _ s) (access_abx w).symm
  | sreAbx w => exact congrArg (fun m => perform _ _ m _ s) (access_abx w).symm
  | adcIzx w => rfl
  | rraIzx w => rfl
  | nopZp64 w => rfl
  | adcZp w => rfl
  | rorZp w => rfl
  | rraZp w => rfl
  | adcImm w => rfl
  | arr w => rfl
  | jmpInd w => exact congrArg (fun m => perform _ _ m _ s) (access_ind w).symm
  | adcAbs w => exact congrArg (fun m => perform _ _ m _ s) (access_abs w).symm
  | rorAbs w => exact congrArg (fun m => perform _ _ m _ s) (access_abs w).symm
  | rraAbs w => exact congrArg (fun m => perform _ _ m _ s) (access_abs w).symm
  | bvs w => exact absurd rfl h
  | adcIzy w => rfl
  | rraIzy w => rfl
  | nopZpx74 w => rfl
  | adcZpx w => rfl
  | rorZpx w => rfl
  | rraZpx w => rfl
  | adcAby w => exact congrArg (fun m => perform _ _ m _ s) (access_aby w).symm
  | rraAby w => exact congrArg (fun m => perform _ _ m _ s) (access_aby w).symm
  | nopAbx7C w => exact congrArg (fun m => perform _ _ m _ s) (access_abx w).symm
  | adcAbx w => exact congrArg (fun m => perform _ _ m _ s) (access_abx w).symm
  | rorAbx w => exact congrArg (fun m => perform _ _ m _ s) (access_abx w).symm
  | rraAbx w => exact congrArg (fun m => perform _ _ m _ s) (access_abx w).symm
  | nopImm80 w => rfl
  | staIzx w => rfl
  | nopImm82 w => rfl
  | saxIzx w => rfl
  | styZp w => rfl
  | staZp w => rfl
  | stxZp w => rfl
  | saxZp w => rfl
  | nopImm89 w => rfl
  | xaa w => rfl
  | styAbs w => exact congrArg (fun m => perform _ _ m _ s) (access_abs w).symm
  | staAbs w => exact congrArg (fun m => perform _ _ m _ s) (access_abs w).symm
  | stxAbs w => exact congrArg (fun m => perform _ _ m _ s) (access_abs w).symm
  | saxAbs w => exact congrArg (fun m => perform _ _ m _ s) (access_abs w).symm
  | bcc w => exact absurd rfl h
  | staIzy w => rfl
  | styZpx w => rfl
  | staZpx w => rfl
  | stxZpy w => rfl
  | saxZpy w => rfl
  | staAby w => exact congrArg (fun m => perform _ _ m _ s) (access_aby w).symm
  | staAbx w => exact congrArg (fun m => perform _ _ m _ s) (access_abx w).symm
  | ldyImm w => rfl
  | ldaIzx w => rfl
  | ldxImm w => rfl
  | laxIzx w => rfl
  | ldyZp w => rfl
  | ldaZp w => rfl
  | ldxZp w => rfl
  | laxZp w => rfl
  | ldaImm w => rfl
  | lxa w => rfl
  | ldyAbs w => exact congrArg (fun m => perform _ _ m _ s) (access_abs w).symm
  | ldaAbs w => exact congrArg (fun m => perform _ _ m _ s) (access_abs w).symm
  | ldxAbs w => exact congrArg (fun m => perform _ _ m _ s) (access_abs w).symm
  | laxAbs w => exact congrArg (fun m => perform _ _ m _ s) (access_abs w).symm
  | bcs w => exact absurd rfl h
  | ldaIzy w => rfl
  | laxIzy w => rfl
  | ldyZpx w => rfl
  | ldaZpx w => rfl
  | ldxZpy w => rfl
  | laxZpy w => rfl
  | ldaAby w => exact congrArg (fun m => perform _ _ m _ s) (access_aby w).symm
  | ldyAbx w => exact congrArg (fun m => perform _ _ m _ s) (access_abx w).symm
  | ldaAbx w => exact congrArg (fun m => perform _ _ m _ s) (access_abx w).symm
  | ldxAby w => exact congrArg (fun m => perform _ _ m _ s) (access_aby w).symm
  | laxAby w => exact congrArg (fun m => perform _ _ m _ s) (access_aby w).symm
  | cpyImm w => rfl
  | cmpIzx w => rfl
  | nopImmC2 w => rfl
  | dcpIzx w => rfl
  | cpyZp w => rfl
  | cmpZp w => rfl
  | decZp w => rfl
  | dcpZp w => rfl
  | cmpImm w => rfl
  | cpyAbs w => exact congrArg (fun m => perform _ _ m _ s) (access_abs w).symm
  | cmpAbs w => exact congrArg (fun m => perform _ _ m _ s) (access_abs w).symm
  | decAbs w => exact congrArg (fun m => perform _ _ m _ s) (access_abs w).symm
  | dcpAbs w => exact congrArg (fun m => perform _ _ m _ s) (access_abs w).symm
  | bne w => exact absurd rfl h
  | cmpIzy w => rfl
  | dcpIzy w => rfl
  | nopZpxD4 w => rfl
  | cmpZpx w => rfl
  | decZpx w => rfl
  | dcpZpx w => rfl
  | cmpAby w => exact congrArg (fun m => perform _ _ m _ s) (access_aby w).symm
  | dcpAby w => exact congrArg (fun m => perform _ _ m _ s) (access_aby w).symm
  | nopAbxDC w => exact congrArg (fun m => perform _ _ m _ s) (access_abx w).symm
  | cmpAbx w => exact congrArg (fun m => perform _ _ m _ s) (access_abx w).symm
  | decAbx w => exact congrArg (fun m => perform _ _ m _ s) (access_abx w).symm
  | dcpAbx w => exact congrArg (fun m => perform _ _ m _ s) (access_abx w).symm
  | cpxImm w => rfl
  | sbcIzx w => rfl
  | nopImmE2 w => rfl
  | iscIzx w => rfl
  | cpxZp w => rfl
  | sbcZp w => rfl
  | incZp w => rfl
  | iscZp w => rfl
  | sbcImm w => rfl
  | cpxAbs w => exact congrArg (fun m => perform _ _ m _ s) (access_abs w).symm
  | sbcAbs w => exact congrArg (fun m => perform _ _ m _ s) (access_abs w).symm
  | incAbs w => exact congrArg (fun m => perform _ _ m _ s) (access_abs w).symm
  | iscAbs w => exact congrArg (fun m => perform _ _ m _ s) (access_abs w).symm
  | beq w => exact absurd rfl h
  | sbcIzy w => rfl
  | iscIzy w => rfl
  | nopZpxF4 w => rfl
  | sbcZpx w => rfl
  | incZpx w => rfl
  | iscZpx w => rfl
  | sbcAby w => exact congrArg (fun m => perform _ _ m _ s) (access_aby w).symm
  | iscAby w => exact congrArg (fun m => perform _ _ m _ s) (access_aby w).symm
  | nopAbxFC w => exact congrArg (fun m => perform _ _ m _ s) (access_abx w).symm
  | sbcAbx w => exact congrArg (fun m => perform _ _ m _ s) (access_abx w).symm
  | incAbx w => exact congrArg (fun m => perform _ _ m _ s) (access_abx w).symm
  | iscAbx w => exact congrArg (fun m => perform _ _ m _ s) (access_abx w).symm
  | brk => rfl
  | jam02 => rfl
  | php => rfl
  | aslAcc => rfl
  | jam12 => rfl
  | clc => rfl
  | nopImp1A => rfl
  | jam22 => rfl
  | plp => rfl
  | rolAcc => rfl
  | jam32 => rfl
  | sec => rfl
  | nopImp3A => rfl
  | rti => rfl
  | jam42 => rfl
  | pha => rfl
  | lsrAcc => rfl
  | jam52 => rfl
  | cli => rfl
  | nopImp5A => rfl
  | rts => rfl
  | jam62 => rfl
  | pla => rfl
  | rorAcc => rfl
  | jam72 => rfl
  | sei => rfl
  | nopImp7A => rfl
  | dey => rfl
  | txa => rfl
  | jam92 => rfl
  | sha93 => rfl
  | tya => rfl
  | txs => rfl
  | tas => rfl
  | shy => rfl
  | shx => rfl
  | sha9F => rfl
  | tay => rfl
  | tax => rfl
  | jamB2 => rfl
  | clv => rfl
  | tsx => rfl
  | las => rfl
  | iny => rfl
  | dex => rfl
  | sbx => rfl
  | jamD2 => rfl
  | cld => rfl
  | nopImpDA => rfl
  | inx => rfl
  | nop => rfl
  | usbc => rfl
  | jamF2 => rfl
  | sed => rfl
  | nopImpFA => rfl

set_option maxRecDepth 10000 in
/-- Every branch. -/
theorem exec_branch_eq (i : Instr) (s : State) (h : i.mode = .rel) :
    exec i s = performBranch i.operand1 (branchTest i.operation) s := by
  cases i with
  | oraIzx _ => exact absurd (show Mode.izx = .rel from h) (by decide)
  | sloIzx _ => exact absurd (show Mode.izx = .rel from h) (by decide)
  | nopZp04 _ => exact absurd (show Mode.zp = .rel from h) (by decide)
  | oraZp _ => exact absurd (show Mode.zp = .rel from h) (by decide)
  | aslZp _ => exact absurd (show Mode.zp = .rel from h) (by decide)
  | sloZp _ => exact absurd (show Mode.zp = .rel from h) (by decide)
  | oraImm _ => exact absurd (show Mode.imm = .rel from h) (by decide)
  | ancImm0B _ => exact absurd (show Mode.imm = .rel from h) (by decide)
  | nopAbs _ => exact absurd (show Mode.abs = .rel from h) (by decide)
  | oraAbs _ => exact absurd (show Mode.abs = .rel from h) (by decide)
  | aslAbs _ => exact absurd (show Mode.abs = .rel from h) (by decide)
  | sloAbs _ => exact absurd (show Mode.abs = .rel from h) (by decide)
  | bpl w => rfl
  | oraIzy _ => exact absurd (show Mode.izy = .rel from h) (by decide)
  | sloIzy _ => exact absurd (show Mode.izy = .rel from h) (by decide)
  | nopZpx14 _ => exact absurd (show Mode.zpx = .rel from h) (by decide)
  | oraZpx _ => exact absurd (show Mode.zpx = .rel from h) (by decide)
  | aslZpx _ => exact absurd (show Mode.zpx = .rel from h) (by decide)
  | sloZpx _ => exact absurd (show Mode.zpx = .rel from h) (by decide)
  | oraAby _ => exact absurd (show Mode.aby = .rel from h) (by decide)
  | sloAby _ => exact absurd (show Mode.aby = .rel from h) (by decide)
  | nopAbx1C _ => exact absurd (show Mode.abx = .rel from h) (by decide)
  | oraAbx _ => exact absurd (show Mode.abx = .rel from h) (by decide)
  | aslAbx _ => exact absurd (show Mode.abx = .rel from h) (by decide)
  | sloAbx _ => exact absurd (show Mode.abx = .rel from h) (by decide)
  | jsr _ => exact absurd (show Mode.abs = .rel from h) (by decide)
  | andIzx _ => exact absurd (show Mode.izx = .rel from h) (by decide)
  | rlaIzx _ => exact absurd (show Mode.izx = .rel from h) (by decide)
  | bitZp _ => exact absurd (show Mode.zp = .rel from h) (by decide)
  | andZp _ => exact absurd (show Mode.zp = .rel from h) (by decide)
  | rolZp _ => exact absurd (show Mode.zp = .rel from h) (by decide)
  | rlaZp _ => exact absurd (show Mode.zp = .rel from h) (by decide)
  | andImm _ => exact absurd (show Mode.imm = .rel from h) (by decide)
  | ancImm2B _ => exact absurd (show Mode.imm = .rel from h) (by decide)
  | bitAbs _ => exact absurd (show Mode.abs = .rel from h) (by decide)
  | andAbs _ => exact absurd (show Mode.abs = .rel from h) (by decide)
  | rolAbs _ => exact absurd (show Mode.abs = .rel from h) (by decide)
  | rlaAbs _ => exact absurd (show Mode.abs = .rel from h) (by decide)
  | bmi w => rfl
  | andIzy _ => exact absurd (show Mode.izy = .rel from h) (by decide)
  | rlaIzy _ => exact absurd (show Mode.izy = .rel from h) (by decide)
  | nopZpx34 _ => exact absurd (show Mode.zpx = .rel from h) (by decide)
  | andZpx _ => exact absurd (show Mode.zpx = .rel from h) (by decide)
  | rolZpx _ => exact absurd (show Mode.zpx = .rel from h) (by decide)
  | rlaZpx _ => exact absurd (show Mode.zpx = .rel from h) (by decide)
  | andAby _ => exact absurd (show Mode.aby = .rel from h) (by decide)
  | rlaAby _ => exact absurd (show Mode.aby = .rel from h) (by decide)
  | nopAbx3C _ => exact absurd (show Mode.abx = .rel from h) (by decide)
  | andAbx _ => exact absurd (show Mode.abx = .rel from h) (by decide)
  | rolAbx _ => exact absurd (show Mode.abx = .rel from h) (by decide)
  | rlaAbx _ => exact absurd (show Mode.abx = .rel from h) (by decide)
  | eorIzx _ => exact absurd (show Mode.izx = .rel from h) (by decide)
  | sreIzx _ => exact absurd (show Mode.izx = .rel from h) (by decide)
  | nopZp44 _ => exact absurd (show Mode.zp = .rel from h) (by decide)
  | eorZp _ => exact absurd (show Mode.zp = .rel from h) (by decide)
  | lsrZp _ => exact absurd (show Mode.zp = .rel from h) (by decide)
  | sreZp _ => exact absurd (show Mode.zp = .rel from h) (by decide)
  | eorImm _ => exact absurd (show Mode.imm = .rel from h) (by decide)
  | alr _ => exact absurd (show Mode.imm = .rel from h) (by decide)
  | jmpAbs _ => exact absurd (show Mode.abs = .rel from h) (by decide)
  | eorAbs _ => exact absurd (show Mode.abs = .rel from h) (by decide)
  | lsrAbs _ => exact absurd (show Mode.abs = .rel from h) (by decide)
  | sreAbs _ => exact absurd (show Mode.abs = .rel from h) (by decide)
  | bvc w => rfl
  | eorIzy _ => exact absurd (show Mode.izy = .rel from h) (by decide)
  | sreIzy _ => exact absurd (show Mode.izy = .rel from h) (by decide)
  | nopZpx54 _ => exact absurd (show Mode.zpx = .rel from h) (by decide)
  | eorZpx _ => exact absurd (show Mode.zpx = .rel from h) (by decide)
  | lsrZpx _ => exact absurd (show Mode.zpx = .rel from h) (by decide)
  | sreZpx _ => exact absurd (show Mode.zpx = .rel from h) (by decide)
  | eorAby _ => exact absurd (show Mode.aby = .rel from h) (by decide)
  | sreAby _ => exact absurd (show Mode.aby = .rel from h) (by decide)
  | nopAbx5C _ => exact absurd (show Mode.abx = .rel from h) (by decide)
  | eorAbx _ => exact absurd (show Mode.abx = .rel from h) (by decide)
  | lsrAbx _ => exact absurd (show Mode.abx = .rel from h) (by decide)
  | sreAbx _ => exact absurd (show Mode.abx = .rel from h) (by decide)
  | adcIzx _ => exact absurd (show Mode.izx = .rel from h) (by decide)
  | rraIzx _ => exact absurd (show Mode.izx = .rel from h) (by decide)
  | nopZp64 _ => exact absurd (show Mode.zp = .rel from h) (by decide)
  | adcZp _ => exact absurd (show Mode.zp = .rel from h) (by decide)
  | rorZp _ => exact absurd (show Mode.zp = .rel from h) (by decide)
  | rraZp _ => exact absurd (show Mode.zp = .rel from h) (by decide)
  | adcImm _ => exact absurd (show Mode.imm = .rel from h) (by decide)
  | arr _ => exact absurd (show Mode.imm = .rel from h) (by decide)
  | jmpInd _ => exact absurd (show Mode.ind = .rel from h) (by decide)
  | adcAbs _ => exact absurd (show Mode.abs = .rel from h) (by decide)
  | rorAbs _ => exact absurd (show Mode.abs = .rel from h) (by decide)
  | rraAbs _ => exact absurd (show Mode.abs = .rel from h) (by decide)
  | bvs w => rfl
  | adcIzy _ => exact absurd (show Mode.izy = .rel from h) (by decide)
  | rraIzy _ => exact absurd (show Mode.izy = .rel from h) (by decide)
  | nopZpx74 _ => exact absurd (show Mode.zpx = .rel from h) (by decide)
  | adcZpx _ => exact absurd (show Mode.zpx = .rel from h) (by decide)
  | rorZpx _ => exact absurd (show Mode.zpx = .rel from h) (by decide)
  | rraZpx _ => exact absurd (show Mode.zpx = .rel from h) (by decide)
  | adcAby _ => exact absurd (show Mode.aby = .rel from h) (by decide)
  | rraAby _ => exact absurd (show Mode.aby = .rel from h) (by decide)
  | nopAbx7C _ => exact absurd (show Mode.abx = .rel from h) (by decide)
  | adcAbx _ => exact absurd (show Mode.abx = .rel from h) (by decide)
  | rorAbx _ => exact absurd (show Mode.abx = .rel from h) (by decide)
  | rraAbx _ => exact absurd (show Mode.abx = .rel from h) (by decide)
  | nopImm80 _ => exact absurd (show Mode.imm = .rel from h) (by decide)
  | staIzx _ => exact absurd (show Mode.izx = .rel from h) (by decide)
  | nopImm82 _ => exact absurd (show Mode.imm = .rel from h) (by decide)
  | saxIzx _ => exact absurd (show Mode.izx = .rel from h) (by decide)
  | styZp _ => exact absurd (show Mode.zp = .rel from h) (by decide)
  | staZp _ => exact absurd (show Mode.zp = .rel from h) (by decide)
  | stxZp _ => exact absurd (show Mode.zp = .rel from h) (by decide)
  | saxZp _ => exact absurd (show Mode.zp = .rel from h) (by decide)
  | nopImm89 _ => exact absurd (show Mode.imm = .rel from h) (by decide)
  | xaa _ => exact absurd (show Mode.imm = .rel from h) (by decide)
  | styAbs _ => exact absurd (show Mode.abs = .rel from h) (by decide)
  | staAbs _ => exact absurd (show Mode.abs = .rel from h) (by decide)
  | stxAbs _ => exact absurd (show Mode.abs = .rel from h) (by decide)
  | saxAbs _ => exact absurd (show Mode.abs = .rel from h) (by decide)
  | bcc w => rfl
  | staIzy _ => exact absurd (show Mode.izy = .rel from h) (by decide)
  | styZpx _ => exact absurd (show Mode.zpx = .rel from h) (by decide)
  | staZpx _ => exact absurd (show Mode.zpx = .rel from h) (by decide)
  | stxZpy _ => exact absurd (show Mode.zpy = .rel from h) (by decide)
  | saxZpy _ => exact absurd (show Mode.zpy = .rel from h) (by decide)
  | staAby _ => exact absurd (show Mode.aby = .rel from h) (by decide)
  | staAbx _ => exact absurd (show Mode.abx = .rel from h) (by decide)
  | ldyImm _ => exact absurd (show Mode.imm = .rel from h) (by decide)
  | ldaIzx _ => exact absurd (show Mode.izx = .rel from h) (by decide)
  | ldxImm _ => exact absurd (show Mode.imm = .rel from h) (by decide)
  | laxIzx _ => exact absurd (show Mode.izx = .rel from h) (by decide)
  | ldyZp _ => exact absurd (show Mode.zp = .rel from h) (by decide)
  | ldaZp _ => exact absurd (show Mode.zp = .rel from h) (by decide)
  | ldxZp _ => exact absurd (show Mode.zp = .rel from h) (by decide)
  | laxZp _ => exact absurd (show Mode.zp = .rel from h) (by decide)
  | ldaImm _ => exact absurd (show Mode.imm = .rel from h) (by decide)
  | lxa _ => exact absurd (show Mode.imm = .rel from h) (by decide)
  | ldyAbs _ => exact absurd (show Mode.abs = .rel from h) (by decide)
  | ldaAbs _ => exact absurd (show Mode.abs = .rel from h) (by decide)
  | ldxAbs _ => exact absurd (show Mode.abs = .rel from h) (by decide)
  | laxAbs _ => exact absurd (show Mode.abs = .rel from h) (by decide)
  | bcs w => rfl
  | ldaIzy _ => exact absurd (show Mode.izy = .rel from h) (by decide)
  | laxIzy _ => exact absurd (show Mode.izy = .rel from h) (by decide)
  | ldyZpx _ => exact absurd (show Mode.zpx = .rel from h) (by decide)
  | ldaZpx _ => exact absurd (show Mode.zpx = .rel from h) (by decide)
  | ldxZpy _ => exact absurd (show Mode.zpy = .rel from h) (by decide)
  | laxZpy _ => exact absurd (show Mode.zpy = .rel from h) (by decide)
  | ldaAby _ => exact absurd (show Mode.aby = .rel from h) (by decide)
  | ldyAbx _ => exact absurd (show Mode.abx = .rel from h) (by decide)
  | ldaAbx _ => exact absurd (show Mode.abx = .rel from h) (by decide)
  | ldxAby _ => exact absurd (show Mode.aby = .rel from h) (by decide)
  | laxAby _ => exact absurd (show Mode.aby = .rel from h) (by decide)
  | cpyImm _ => exact absurd (show Mode.imm = .rel from h) (by decide)
  | cmpIzx _ => exact absurd (show Mode.izx = .rel from h) (by decide)
  | nopImmC2 _ => exact absurd (show Mode.imm = .rel from h) (by decide)
  | dcpIzx _ => exact absurd (show Mode.izx = .rel from h) (by decide)
  | cpyZp _ => exact absurd (show Mode.zp = .rel from h) (by decide)
  | cmpZp _ => exact absurd (show Mode.zp = .rel from h) (by decide)
  | decZp _ => exact absurd (show Mode.zp = .rel from h) (by decide)
  | dcpZp _ => exact absurd (show Mode.zp = .rel from h) (by decide)
  | cmpImm _ => exact absurd (show Mode.imm = .rel from h) (by decide)
  | cpyAbs _ => exact absurd (show Mode.abs = .rel from h) (by decide)
  | cmpAbs _ => exact absurd (show Mode.abs = .rel from h) (by decide)
  | decAbs _ => exact absurd (show Mode.abs = .rel from h) (by decide)
  | dcpAbs _ => exact absurd (show Mode.abs = .rel from h) (by decide)
  | bne w => rfl
  | cmpIzy _ => exact absurd (show Mode.izy = .rel from h) (by decide)
  | dcpIzy _ => exact absurd (show Mode.izy = .rel from h) (by decide)
  | nopZpxD4 _ => exact absurd (show Mode.zpx = .rel from h) (by decide)
  | cmpZpx _ => exact absurd (show Mode.zpx = .rel from h) (by decide)
  | decZpx _ => exact absurd (show Mode.zpx = .rel from h) (by decide)
  | dcpZpx _ => exact absurd (show Mode.zpx = .rel from h) (by decide)
  | cmpAby _ => exact absurd (show Mode.aby = .rel from h) (by decide)
  | dcpAby _ => exact absurd (show Mode.aby = .rel from h) (by decide)
  | nopAbxDC _ => exact absurd (show Mode.abx = .rel from h) (by decide)
  | cmpAbx _ => exact absurd (show Mode.abx = .rel from h) (by decide)
  | decAbx _ => exact absurd (show Mode.abx = .rel from h) (by decide)
  | dcpAbx _ => exact absurd (show Mode.abx = .rel from h) (by decide)
  | cpxImm _ => exact absurd (show Mode.imm = .rel from h) (by decide)
  | sbcIzx _ => exact absurd (show Mode.izx = .rel from h) (by decide)
  | nopImmE2 _ => exact absurd (show Mode.imm = .rel from h) (by decide)
  | iscIzx _ => exact absurd (show Mode.izx = .rel from h) (by decide)
  | cpxZp _ => exact absurd (show Mode.zp = .rel from h) (by decide)
  | sbcZp _ => exact absurd (show Mode.zp = .rel from h) (by decide)
  | incZp _ => exact absurd (show Mode.zp = .rel from h) (by decide)
  | iscZp _ => exact absurd (show Mode.zp = .rel from h) (by decide)
  | sbcImm _ => exact absurd (show Mode.imm = .rel from h) (by decide)
  | cpxAbs _ => exact absurd (show Mode.abs = .rel from h) (by decide)
  | sbcAbs _ => exact absurd (show Mode.abs = .rel from h) (by decide)
  | incAbs _ => exact absurd (show Mode.abs = .rel from h) (by decide)
  | iscAbs _ => exact absurd (show Mode.abs = .rel from h) (by decide)
  | beq w => rfl
  | sbcIzy _ => exact absurd (show Mode.izy = .rel from h) (by decide)
  | iscIzy _ => exact absurd (show Mode.izy = .rel from h) (by decide)
  | nopZpxF4 _ => exact absurd (show Mode.zpx = .rel from h) (by decide)
  | sbcZpx _ => exact absurd (show Mode.zpx = .rel from h) (by decide)
  | incZpx _ => exact absurd (show Mode.zpx = .rel from h) (by decide)
  | iscZpx _ => exact absurd (show Mode.zpx = .rel from h) (by decide)
  | sbcAby _ => exact absurd (show Mode.aby = .rel from h) (by decide)
  | iscAby _ => exact absurd (show Mode.aby = .rel from h) (by decide)
  | nopAbxFC _ => exact absurd (show Mode.abx = .rel from h) (by decide)
  | sbcAbx _ => exact absurd (show Mode.abx = .rel from h) (by decide)
  | incAbx _ => exact absurd (show Mode.abx = .rel from h) (by decide)
  | iscAbx _ => exact absurd (show Mode.abx = .rel from h) (by decide)
  | brk => exact absurd (show Mode.imp = .rel from h) (by decide)
  | jam02 => exact absurd (show Mode.imp = .rel from h) (by decide)
  | php => exact absurd (show Mode.imp = .rel from h) (by decide)
  | aslAcc => exact absurd (show Mode.acc = .rel from h) (by decide)
  | jam12 => exact absurd (show Mode.imp = .rel from h) (by decide)
  | clc => exact absurd (show Mode.imp = .rel from h) (by decide)
  | nopImp1A => exact absurd (show Mode.imp = .rel from h) (by decide)
  | jam22 => exact absurd (show Mode.imp = .rel from h) (by decide)
  | plp => exact absurd (show Mode.imp = .rel from h) (by decide)
  | rolAcc => exact absurd (show Mode.acc = .rel from h) (by decide)
  | jam32 => exact absurd (show Mode.imp = .rel from h) (by decide)
  | sec => exact absurd (show Mode.imp = .rel from h) (by decide)
  | nopImp3A => exact absurd (show Mode.imp = .rel from h) (by decide)
  | rti => exact absurd (show Mode.imp = .rel from h) (by decide)
  | jam42 => exact absurd (show Mode.imp = .rel from h) (by decide)
  | pha => exact absurd (show Mode.imp = .rel from h) (by decide)
  | lsrAcc => exact absurd (show Mode.acc = .rel from h) (by decide)
  | jam52 => exact absurd (show Mode.imp = .rel from h) (by decide)
  | cli => exact absurd (show Mode.imp = .rel from h) (by decide)
  | nopImp5A => exact absurd (show Mode.imp = .rel from h) (by decide)
  | rts => exact absurd (show Mode.imp = .rel from h) (by decide)
  | jam62 => exact absurd (show Mode.imp = .rel from h) (by decide)
  | pla => exact absurd (show Mode.imp = .rel from h) (by decide)
  | rorAcc => exact absurd (show Mode.acc = .rel from h) (by decide)
  | jam72 => exact absurd (show Mode.imp = .rel from h) (by decide)
  | sei => exact absurd (show Mode.imp = .rel from h) (by decide)
  | nopImp7A => exact absurd (show Mode.imp = .rel from h) (by decide)
  | dey => exact absurd (show Mode.imp = .rel from h) (by decide)
  | txa => exact absurd (show Mode.imp = .rel from h) (by decide)
  | jam92 => exact absurd (show Mode.imp = .rel from h) (by decide)
  | sha93 => exact absurd (show Mode.imp = .rel from h) (by decide)
  | tya => exact absurd (show Mode.imp = .rel from h) (by decide)
  | txs => exact absurd (show Mode.imp = .rel from h) (by decide)
  | tas => exact absurd (show Mode.imp = .rel from h) (by decide)
  | shy => exact absurd (show Mode.imp = .rel from h) (by decide)
  | shx => exact absurd (show Mode.imp = .rel from h) (by decide)
  | sha9F => exact absurd (show Mode.imp = .rel from h) (by decide)
  | tay => exact absurd (show Mode.imp = .rel from h) (by decide)
  | tax => exact absurd (show Mode.imp = .rel from h) (by decide)
  | jamB2 => exact absurd (show Mode.imp = .rel from h) (by decide)
  | clv => exact absurd (show Mode.imp = .rel from h) (by decide)
  | tsx => exact absurd (show Mode.imp = .rel from h) (by decide)
  | las => exact absurd (show Mode.imp = .rel from h) (by decide)
  | iny => exact absurd (show Mode.imp = .rel from h) (by decide)
  | dex => exact absurd (show Mode.imp = .rel from h) (by decide)
  | sbx => exact absurd (show Mode.imp = .rel from h) (by decide)
  | jamD2 => exact absurd (show Mode.imp = .rel from h) (by decide)
  | cld => exact absurd (show Mode.imp = .rel from h) (by decide)
  | nopImpDA => exact absurd (show Mode.imp = .rel from h) (by decide)
  | inx => exact absurd (show Mode.imp = .rel from h) (by decide)
  | nop => exact absurd (show Mode.imp = .rel from h) (by decide)
  | usbc => exact absurd (show Mode.imp = .rel from h) (by decide)
  | jamF2 => exact absurd (show Mode.imp = .rel from h) (by decide)
  | sed => exact absurd (show Mode.imp = .rel from h) (by decide)
  | nopImpFA => exact absurd (show Mode.imp = .rel from h) (by decide)

/-! ## Facts of every row of the table -/

set_option maxRecDepth 100000 in
/-- A property of table rows that holds of the 256 rows holds of every instruction's row. -/
theorem all_rows {q : OpcodeRow → Prop} [DecidablePred q]
    (h : opcodeTable.all (fun r => decide (q r)) = true) (i : Instr) : q i.row := by
  unfold Instr.row opcodeRow
  have hl : opcodeTable.length = 256 := rfl
  have hlt := i.opcode.isLt
  have hm := List.all_eq_true.mp h (opcodeTable.getD i.opcode.toNat ⟨.nop, .imp, 2, false⟩) (by
    rw [List.getD_eq_getElem _ _ (by omega)]
    exact List.getElem_mem _)
  simpa using hm

/-- The next state of an instruction that is no branch. -/
theorem exec_next (i : Instr) (s : State) (h : i.mode ≠ .rel) :
    exec i s = .next (finishCycles (i.cost s) (instrWork i (i.accessIn s).operand (i.accessIn s).state)) :=
  exec_eq i s h

set_option maxRecDepth 100000 in
/-- The branches are the instructions of mode REL (R193). -/
theorem mode_rel_iff (i : Instr) :
    i.mode = .rel ↔ i.operation ∈ ([.bpl, .bmi, .bvc, .bvs, .bcc, .bcs, .bne, .beq] : List Operation) :=
  all_rows (q := fun r => r.mode = .rel ↔
    r.operation ∈ ([.bpl, .bmi, .bvc, .bvs, .bcc, .bcs, .bne, .beq] : List Operation)) (by decide) i

end Sys2Proof.Machine
end

