-- ==== Sys2Proof/Laws/Flags.lean ====
section
/-! SUPPORT. The flags of P after a flag write, and what the shared flag computations leave. -/

namespace Sys2Proof.Machine

/-- A flag of P after one flag is written. -/
theorem flagOf_putFlag (f g : Flag) (v : Bool) (p : Byte) :
    flagOf g (putFlag f v p) = if g = f then v else flagOf g p := by
  cases f <;> cases g <;> cases v <;> simp [flagOf, putFlag, Flag.bit]

@[simp] theorem State.flag_setFlag (f g : Flag) (v : Bool) (s : State) :
    (s.setFlag f v).flag g = if g = f then v else s.flag g := flagOf_putFlag f g v s.cpu.p

/-- `flagsNZ` writes Z and N of the result and no other flag. -/
@[simp] theorem State.flag_flagsNZ (g : Flag) (r : Byte) (s : State) :
    (flagsNZ r s).flag g = if g = .n then r.getLsbD 7 else if g = .z then decide (r = 0) else s.flag g := by
  unfold flagsNZ
  rw [State.flag_setFlag]
  split
  · rfl
  · rw [State.flag_setFlag]

/-- `flagsNZ` changes P alone. -/
theorem flagsNZ_eq (r : Byte) (s : State) :
    flagsNZ r s = s.setP (putFlag .n (r.getLsbD 7) (putFlag .z (decide (r = 0)) s.cpu.p)) := rfl

@[simp] theorem flagsNZ_cpu_a (r : Byte) (s : State) : (flagsNZ r s).cpu.a = s.cpu.a := rfl
@[simp] theorem flagsNZ_cpu_x (r : Byte) (s : State) : (flagsNZ r s).cpu.x = s.cpu.x := rfl
@[simp] theorem flagsNZ_cpu_y (r : Byte) (s : State) : (flagsNZ r s).cpu.y = s.cpu.y := rfl
@[simp] theorem flagsNZ_cpu_sp (r : Byte) (s : State) : (flagsNZ r s).cpu.sp = s.cpu.sp := rfl
@[simp] theorem flagsNZ_cpu_pc (r : Byte) (s : State) : (flagsNZ r s).cpu.pc = s.cpu.pc := rfl
@[simp] theorem flagsNZ_cpu_opcode (r : Byte) (s : State) : (flagsNZ r s).cpu.opcode = s.cpu.opcode := rfl
@[simp] theorem flagsNZ_cpu_fetched (r : Byte) (s : State) : (flagsNZ r s).cpu.fetched = s.cpu.fetched := rfl
@[simp] theorem flagsNZ_cpu_addrAbs (r : Byte) (s : State) : (flagsNZ r s).cpu.addrAbs = s.cpu.addrAbs := rfl
@[simp] theorem flagsNZ_cpu_addrRel (r : Byte) (s : State) : (flagsNZ r s).cpu.addrRel = s.cpu.addrRel := rfl
@[simp] theorem flagsNZ_cpu_cycles (r : Byte) (s : State) : (flagsNZ r s).cpu.cycles = s.cpu.cycles := rfl
@[simp] theorem flagsNZ_cpu_nmiPending (r : Byte) (s : State) : (flagsNZ r s).cpu.nmiPending = s.cpu.nmiPending := rfl
@[simp] theorem flagsNZ_cpu_irqPending (r : Byte) (s : State) : (flagsNZ r s).cpu.irqPending = s.cpu.irqPending := rfl
@[simp] theorem flagsNZ_cpu_totalCycles (r : Byte) (s : State) : (flagsNZ r s).cpu.totalCycles = s.cpu.totalCycles := rfl
@[simp] theorem flagsNZ_cpu_dmaStall (r : Byte) (s : State) : (flagsNZ r s).cpu.dmaStall = s.cpu.dmaStall := rfl
@[simp] theorem flagsNZ_ppu (r : Byte) (s : State) : (flagsNZ r s).ppu = s.ppu := rfl
@[simp] theorem flagsNZ_apu (r : Byte) (s : State) : (flagsNZ r s).apu = s.apu := rfl
@[simp] theorem flagsNZ_ctrl (r : Byte) (s : State) : (flagsNZ r s).ctrl = s.ctrl := rfl
@[simp] theorem flagsNZ_ram (r : Byte) (s : State) : (flagsNZ r s).ram = s.ram := rfl
@[simp] theorem flagsNZ_cart (r : Byte) (s : State) : (flagsNZ r s).cart = s.cart := rfl
@[simp] theorem flagsNZ_dotCount (r : Byte) (s : State) : (flagsNZ r s).dotCount = s.dotCount := rfl
@[simp] theorem flagsNZ_config (r : Byte) (s : State) : (flagsNZ r s).config = s.config := rfl

/-- Bit 7 of a byte as a comparison. -/
theorem getLsbD_seven (r : Byte) : r.getLsbD 7 = decide (128 ≤ r.toNat) := by
  revert r
  decide

/-- Bit 6 of a byte as a comparison. -/
theorem getLsbD_six (r : Byte) : r.getLsbD 6 = decide (64 ≤ r.toNat % 128) := by
  revert r
  decide

/-- Bit 5 of a byte as a comparison. -/
theorem getLsbD_five (r : Byte) : r.getLsbD 5 = decide (32 ≤ r.toNat % 64) := by
  revert r
  decide

/-- A write of P alone changes no flag but through P. -/
@[simp] theorem State.flag_setP (g : Flag) (p : Byte) (s : State) : (s.setP p).flag g = flagOf g p := rfl

/-! ## The flags after a register write -/

@[simp] theorem State.flag_setA (g : Flag) (v : Byte) (s : State) : (s.setA v).flag g = s.flag g := rfl
@[simp] theorem State.flag_setX (g : Flag) (v : Byte) (s : State) : (s.setX v).flag g = s.flag g := rfl
@[simp] theorem State.flag_setY (g : Flag) (v : Byte) (s : State) : (s.setY v).flag g = s.flag g := rfl
@[simp] theorem State.flag_setSp (g : Flag) (v : Byte) (s : State) : (s.setSp v).flag g = s.flag g := rfl
@[simp] theorem State.flag_setPc (g : Flag) (v : Word) (s : State) : (s.setPc v).flag g = s.flag g := rfl
@[simp] theorem State.flag_setOpcode (g : Flag) (v : Byte) (s : State) : (s.setOpcode v).flag g = s.flag g := rfl
@[simp] theorem State.flag_setFetched (g : Flag) (v : Byte) (s : State) : (s.setFetched v).flag g = s.flag g := rfl
@[simp] theorem State.flag_setAddrAbs (g : Flag) (v : Word) (s : State) : (s.setAddrAbs v).flag g = s.flag g := rfl
@[simp] theorem State.flag_setAddrRel (g : Flag) (v : Word) (s : State) : (s.setAddrRel v).flag g = s.flag g := rfl
@[simp] theorem State.flag_setCycles (g : Flag) (v : Nat) (s : State) : (s.setCycles v).flag g = s.flag g := rfl
@[simp] theorem State.flag_setDmaStall (g : Flag) (v : Nat) (s : State) : (s.setDmaStall v).flag g = s.flag g := rfl
@[simp] theorem State.flag_setNmiPending (g : Flag) (v : Bool) (s : State) : (s.setNmiPending v).flag g = s.flag g := rfl
@[simp] theorem State.flag_setIrqPending (g : Flag) (v : Bool) (s : State) : (s.setIrqPending v).flag g = s.flag g := rfl

/-! ## The adder and the comparison in integer arithmetic -/

/-- The 9-bit sum is exact. -/
theorem addSum_toNat (a m : Byte) (c : Bool) : (addSum a m c).toNat = a.toNat + m.toNat + c.toNat := by
  have := a.isLt
  have := m.isLt
  cases c <;> simp [addSum, boolBit, BitVec.toNat_setWidth] <;> omega

/-- The low byte of the sum. -/
theorem addSum_low (a m : Byte) (c : Bool) :
    (addSum a m c).extractLsb' 0 8 = BitVec.ofNat 8 (a.toNat + m.toNat + c.toNat) := by
  apply BitVec.eq_of_toNat_eq
  simp [BitVec.extractLsb'_toNat, addSum_toNat]

/-- The carry of the sum. -/
theorem addSum_carry (a m : Byte) (c : Bool) :
    (addSum a m c).getLsbD 8 = decide (255 < a.toNat + m.toNat + c.toNat) := by
  have := a.isLt
  have := m.isLt
  have hc : c.toNat ≤ 1 := by cases c <;> simp
  rw [← addSum_toNat]
  have := addSum_toNat a m c
  rw [BitVec.getLsbD, Nat.testBit_eq_decide_div_mod_eq]
  apply decide_eq_decide.mpr
  omega

/-- The overflow pattern of R252 is the signed sum outside -128..127. -/
theorem addOverflow_eq (a m : Byte) (c : Bool) :
    addOverflow a m (BitVec.ofNat 8 (a.toNat + m.toNat + c.toNat)) =
      decide (a.toInt + m.toInt + c.toNat < -128 ∨ 127 < a.toInt + m.toInt + c.toNat) := by
  have ha := a.isLt
  have hm := m.isLt
  have hc : c.toNat ≤ 1 := by cases c <;> simp
  have key : ∀ x : Byte, decide (x &&& 0x80 ≠ 0) = x.getLsbD 7 := by decide
  unfold addOverflow
  rw [key]
  simp only [BitVec.getLsbD_and, BitVec.getLsbD_not, BitVec.getLsbD_xor]
  simp only [getLsbD_seven]
  simp only [BitVec.toInt_eq_toNat_cond, BitVec.toNat_ofNat]
  rw [Bool.eq_iff_iff]
  by_cases h1 : 128 ≤ a.toNat <;> by_cases h2 : 128 ≤ m.toNat <;>
    by_cases h3 : 128 ≤ (a.toNat + m.toNat + c.toNat) % 2 ^ 8 <;>
    simp only [h1, h2, h3, decide_true, decide_false, Bool.xor_self, Bool.xor_true, Bool.xor_false,
      Bool.not_true, Bool.not_false, Bool.and_true, Bool.and_false, decide_eq_true_eq,
      Bool.false_eq_true, false_iff] <;> (try split) <;> (try split) <;> omega

/-- The complemented operand of SBC (R254). -/
theorem complement_toNat (m : Byte) : (m ^^^ 0xFF).toNat = 255 - m.toNat := by
  revert m
  decide

/-- The complemented operand of SBC as a signed byte. -/
theorem complement_toInt (m : Byte) : (m ^^^ 0xFF).toInt = -m.toInt - 1 := by
  revert m
  decide

/-- The sum of two bytes and a carry as a signed sum, modulo 256. -/
theorem ofNat_sum_eq_ofInt (a m : Byte) (c : Bool) :
    BitVec.ofNat 8 (a.toNat + m.toNat + c.toNat) = BitVec.ofInt 8 (a.toInt + m.toInt + c.toNat) := by
  apply BitVec.eq_of_toNat_eq
  simp only [BitVec.toNat_ofNat, BitVec.toNat_ofInt, BitVec.toInt_eq_toNat_cond]
  split <;> split <;> omega

/-- What `AddCore(m)` does: A takes the sum modulo 256, C the unsigned carry, V the signed overflow, Z and N those
of the result, every other flag is kept (R250 to R252). -/
theorem addCore_spec (m : Byte) (s : State) :
    let signed : Int := s.cpu.a.toInt + m.toInt + (s.flag .c).toNat
    ∃ p, addCore m s = (s.setA (BitVec.ofInt 8 signed)).setP p ∧
      flagOf .c p = decide (255 < s.cpu.a.toNat + m.toNat + (s.flag .c).toNat) ∧
      flagOf .v p = decide (signed < -128 ∨ 127 < signed) ∧
      flagOf .z p = decide (BitVec.ofInt 8 signed = 0) ∧
      flagOf .n p = decide (128 ≤ (BitVec.ofInt 8 signed).toNat) ∧
      ∀ f, f ∉ ([.c, .z, .v, .n] : List Flag) → flagOf f p = s.flag f := by
  intro signed
  refine ⟨(addCore m s).cpu.p, ?_⟩
  unfold addCore
  simp only [addSum_low, addSum_carry, addOverflow_eq]
  simp only [ofNat_sum_eq_ofInt]
  refine ⟨rfl, ?_, ?_, ?_, ?_, ?_⟩
  · simp [flagsNZ_eq, flagOf_putFlag]
  · simp [flagsNZ_eq, flagOf_putFlag, signed]
  · simp [flagsNZ_eq, flagOf_putFlag, signed]
  · simp only [flagsNZ_eq, flagOf_putFlag, State.setP_cpu_p, if_true, getLsbD_seven, signed]
  · intro f hf
    simp at hf
    simp [flagsNZ_eq, flagOf_putFlag, hf]
    rfl

/-- What `Compare(r, m)` does: C, Z and N, and nothing else (R259). -/
theorem compare_spec (r m : Byte) (s : State) :
    ∃ p, compare r m s = s.setP p ∧ flagOf .c p = decide (m.toNat ≤ r.toNat) ∧
      flagOf .z p = decide (m.toNat = r.toNat) ∧
      flagOf .n p = decide (128 ≤ (r.toNat + 256 - m.toNat) % 256) ∧
      ∀ f, f ∉ ([.c, .z, .n] : List Flag) → flagOf f p = s.flag f := by
  refine ⟨(compare r m s).cpu.p, rfl, ?_, ?_, ?_, ?_⟩
  · simp [compare, flagOf_putFlag]
  · simp only [compare, State.setFlag_cpu_p, flagOf_putFlag]
    simp only [reduceCtorEq, if_false, if_true]
    apply decide_eq_decide.mpr
    constructor
    · intro h; rw [h]
    · intro h; exact (BitVec.eq_of_toNat_eq h).symm
  · simp only [compare, State.setFlag_cpu_p, flagOf_putFlag, if_true, getLsbD_seven]
    apply decide_eq_decide.mpr
    have := r.isLt
    have := m.isLt
    rw [BitVec.toNat_sub]
    omega
  · intro f hf
    simp at hf
    simp [compare, flagOf_putFlag, hf]
    rfl

/-! ## Shifts in integer arithmetic -/

/-- ASL's result and carry (R291). -/
theorem shiftLeft_eq (c : Bool) (m : Byte) :
    shiftLeft m = (BitVec.ofNat 8 (shiftResult .asl c m).1, (shiftResult .asl c m).2) := by
  revert m c
  decide

/-- LSR's result and carry (R292). -/
theorem shiftRight_eq (c : Bool) (m : Byte) :
    shiftRight m = (BitVec.ofNat 8 (shiftResult .lsr c m).1, (shiftResult .lsr c m).2) := by
  revert m c
  decide

/-- ROL's result and carry (R293). -/
theorem rotateLeft_eq (c : Bool) (m : Byte) :
    rotateLeft c m = (BitVec.ofNat 8 (shiftResult .rol c m).1, (shiftResult .rol c m).2) := by
  revert m c
  decide

/-- ROR's result and carry (R294). -/
theorem rotateRight_eq (c : Bool) (m : Byte) :
    rotateRight c m = (BitVec.ofNat 8 (shiftResult .ror c m).1, (shiftResult .ror c m).2) := by
  revert m c
  decide

/-- The flags of the pulled status byte: B is 0, U is 1, the rest as pulled (R244, R304). -/
theorem flagOf_pulledP (f : Flag) (m : Byte) :
    flagOf f (pulledP m) = if f = .b then false else if f = .u then true else flagOf f m := by
  revert m
  cases f <;> decide

/-- The flags of the pushed status byte: B as given, U is 1, the rest as in P (R410). -/
theorem flagOf_pushedP (f : Flag) (b : Bool) (p : Byte) :
    flagOf f (pushedP b p) = if f = .b then b else if f = .u then true else flagOf f p := by
  revert p b
  cases f <;> decide

/-- P after its I is set (R40). -/
theorem flagOf_withI (f : Flag) (p : Byte) : flagOf f (withI p) = if f = .i then true else flagOf f p := by
  revert p
  cases f <;> decide

/-- P after its U is set (R34). -/
theorem flagOf_withU (f : Flag) (p : Byte) : flagOf f (withU p) = if f = .u then true else flagOf f p := by
  revert p
  cases f <;> decide

end Sys2Proof.Machine
end

