-- ==== Sys2Proof/Laws/Host.lean ====
section
/-! SUPPORT. What the host's save and load operations can do. -/

namespace Sys2Proof.Machine

@[simp] theorem restore_config (c : SavedState) (s : State) : (s.restore c).config = s.config := rfl
@[simp] theorem captured_restore (c : SavedState) (s : State) : (s.restore c).captured = c := rfl
@[simp] theorem restore_captured (s : State) : s.restore s.captured = s := rfl

/-- A save carries the accepted version and the captured state (R481). -/
theorem saveState_eq (s : State) : s.saveState = { version := Config.saveVersion, content := some s.captured } := rfl

/-- A load either replaces the whole state and keeps the parameters, or is refused for the version or the encoding,
and nothing else (R75, R481, U25). -/
theorem loadState_cases (image : SaveImage) (s : State) :
    (∃ c, image = { version := Config.saveVersion, content := some c } ∧ s.loadState image = .next (s.restore c)) ∨
    ((image.version ≠ Config.saveVersion ∨ image.content = none) ∧
      s.loadState image = .refused .saveStateFormat) := by
  obtain ⟨v, content⟩ := image
  unfold State.loadState
  by_cases h : v = Config.saveVersion
  · cases content with
    | none => exact .inr ⟨.inr rfl, if_pos h⟩
    | some c => exact .inl ⟨c, by rw [h], if_pos h⟩
  · exact .inr ⟨.inl h, if_neg h⟩

/-- A save that is loaded into any machine with the same parameters gives the machine that was saved (R481). -/
theorem loadState_saveState (s u : State) (h : u.config = s.config) : u.loadState s.saveState = .next s := by
  obtain ⟨c, hc, hl⟩ | ⟨h1 | h1, -⟩ := loadState_cases s.saveState u
  · obtain rfl : s.captured = c := Option.some.inj (congrArg SaveImage.content hc)
    rw [hl, State.restore, h]
    rfl
  · exact absurd rfl h1
  · cases h1

end Sys2Proof.Machine
end

