-- ==== Sys2Proof/Laws/Operands.lean ====
section
/-! SUPPORT. What an addressing mode, a data read and a data write can do, said once. -/

namespace Sys2Proof.Machine

/-! ## Frames compose -/

theorem SameBytes.trans {s t u : State} (h : SameBytes s t) (k : SameBytes t u) : SameBytes s u :=
  fun m n => (k m n).trans (h m n)

theorem SameBytes.refl (s : State) : SameBytes s s := fun _ _ => rfl

/-- The same memories hold the same bytes. -/
theorem SameBytes.of_memories {s t : State} (h : ∀ m, t.memoryOf m = s.memoryOf m) : SameBytes s t := by
  intro m k
  unfold State.byteAt
  rw [h]

/-- The same outside is the same bytes. -/
theorem SameOutside.bytes {s t : State} (h : SameOutside s t) : SameBytes s t := by
  obtain ⟨⟨hp, -, -, -, -⟩, hr, hc⟩ := h
  apply SameBytes.of_memories
  intro m
  cases m <;> simp [State.memoryOf, hp, hr, hc]

theorem SameOutside.refl (s : State) : SameOutside s s := ⟨⟨rfl, rfl, rfl, rfl, rfl⟩, rfl, rfl⟩

theorem SameOutside.trans {s t u : State} (h : SameOutside s t) (k : SameOutside t u) : SameOutside s u :=
  ⟨⟨k.1.1.trans h.1.1, k.1.2.1.trans h.1.2.1, k.1.2.2.1.trans h.1.2.2.1, k.1.2.2.2.1.trans h.1.2.2.2.1,
    k.1.2.2.2.2.trans h.1.2.2.2.2⟩, k.2.1.trans h.2.1, k.2.2.trans h.2.2⟩

theorem SameOutside.symm {s t : State} (h : SameOutside s t) : SameOutside t s :=
  ⟨⟨h.1.1.symm, h.1.2.1.symm, h.1.2.2.1.symm, h.1.2.2.2.1.symm, h.1.2.2.2.2.symm⟩, h.2.1.symm, h.2.2.symm⟩

/-- A change of the CPU is nothing outside it. -/
theorem sameOutside_withCpu (c : Cpu) (s : State) : SameOutside s (s.withCpu c) :=
  ⟨⟨rfl, rfl, rfl, rfl, rfl⟩, rfl, rfl⟩

/-- A PPU observation changes no byte. -/
theorem mapperObserve_memoryOf (a : Word) (s : State) (m : Space) :
    (mapperObserve a s).memoryOf m = s.memoryOf m := by
  unfold mapperObserve State.mapCart
  cases h : s.cart <;> cases m <;> simp [State.memoryOf, h]

/-- A bus read changes no memory. -/
theorem memRead_memoryOf (a : Word) (s : State) (m : Space) : (memRead a s).1.memoryOf m = s.memoryOf m := by
  obtain ⟨vb, w, b, v, hp⟩ := memRead_ppu a s
  rcases memRead_cart a s with hc | ⟨p, hc⟩
  · cases m <;> simp [State.memoryOf, hp, hc]
  · have h1 := mapperObserve_memoryOf p s .prgRom
    have h2 := mapperObserve_memoryOf p s .prgRam
    have h3 := mapperObserve_memoryOf p s .chr
    simp only [State.memoryOf] at h1 h2 h3
    cases m <;> simp [State.memoryOf, hp, hc, h1, h2, h3]

/-- A bus read changes no byte of any memory. -/
theorem memRead_bytes (a : Word) (s : State) : SameBytes s (memRead a s).1 :=
  SameBytes.of_memories (memRead_memoryOf a s)

/-! ## The end of an instruction -/

@[simp] theorem finishCycles_cpu_a (n : Nat) (s : State) : (finishCycles n s).cpu.a = s.cpu.a := rfl
@[simp] theorem finishCycles_cpu_x (n : Nat) (s : State) : (finishCycles n s).cpu.x = s.cpu.x := rfl
@[simp] theorem finishCycles_cpu_y (n : Nat) (s : State) : (finishCycles n s).cpu.y = s.cpu.y := rfl
@[simp] theorem finishCycles_cpu_sp (n : Nat) (s : State) : (finishCycles n s).cpu.sp = s.cpu.sp := rfl
@[simp] theorem finishCycles_cpu_p (n : Nat) (s : State) : (finishCycles n s).cpu.p = s.cpu.p := rfl
@[simp] theorem finishCycles_cpu_pc (n : Nat) (s : State) : (finishCycles n s).cpu.pc = s.cpu.pc := rfl
@[simp] theorem finishCycles_cpu_opcode (n : Nat) (s : State) : (finishCycles n s).cpu.opcode = s.cpu.opcode := rfl
@[simp] theorem finishCycles_cpu_fetched (n : Nat) (s : State) : (finishCycles n s).cpu.fetched = s.cpu.fetched := rfl
@[simp] theorem finishCycles_cpu_addrAbs (n : Nat) (s : State) : (finishCycles n s).cpu.addrAbs = s.cpu.addrAbs := rfl
@[simp] theorem finishCycles_cpu_addrRel (n : Nat) (s : State) : (finishCycles n s).cpu.addrRel = s.cpu.addrRel := rfl
@[simp] theorem finishCycles_cpu_nmiPending (n : Nat) (s : State) : (finishCycles n s).cpu.nmiPending = s.cpu.nmiPending := rfl
@[simp] theorem finishCycles_cpu_irqPending (n : Nat) (s : State) : (finishCycles n s).cpu.irqPending = s.cpu.irqPending := rfl
@[simp] theorem finishCycles_cpu_totalCycles (n : Nat) (s : State) : (finishCycles n s).cpu.totalCycles = s.cpu.totalCycles := rfl
@[simp] theorem finishCycles_cpu_cycles (n : Nat) (s : State) :
    (finishCycles n s).cpu.cycles = n + s.cpu.dmaStall := rfl
@[simp] theorem finishCycles_cpu_dmaStall (n : Nat) (s : State) : (finishCycles n s).cpu.dmaStall = 0 := rfl
@[simp] theorem finishCycles_ppu (n : Nat) (s : State) : (finishCycles n s).ppu = s.ppu := rfl
@[simp] theorem finishCycles_apu (n : Nat) (s : State) : (finishCycles n s).apu = s.apu := rfl
@[simp] theorem finishCycles_ctrl (n : Nat) (s : State) : (finishCycles n s).ctrl = s.ctrl := rfl
@[simp] theorem finishCycles_ram (n : Nat) (s : State) : (finishCycles n s).ram = s.ram := rfl
@[simp] theorem finishCycles_cart (n : Nat) (s : State) : (finishCycles n s).cart = s.cart := rfl
@[simp] theorem finishCycles_dotCount (n : Nat) (s : State) : (finishCycles n s).dotCount = s.dotCount := rfl
@[simp] theorem finishCycles_config (n : Nat) (s : State) : (finishCycles n s).config = s.config := rfl
@[simp] theorem flag_finishCycles (f : Flag) (n : Nat) (s : State) : (finishCycles n s).flag f = s.flag f := rfl

/-- Two states that differ in the CPU alone are the same outside it. -/
theorem sameOutside_of_eq {s t : State} (h : t = s.withCpu t.cpu) : SameOutside s t := by
  rw [h]
  exact sameOutside_withCpu _ _

/-- `flagsNZ` leaves Z and N of its result. -/
theorem flagsOfResult_flagsNZ (r : Byte) (s : State) : FlagsOfResult (flagsNZ r s) r := by
  constructor
  · simp
  · rw [State.flag_flagsNZ, if_pos rfl, getLsbD_seven]

/-! ## The zero page -/

/-- A zero-page address is in RAM. -/
theorem zext16_toNat (z : Byte) : (zext16 z).toNat = z.toNat := by
  have := z.isLt
  simp [zext16, BitVec.toNat_setWidth]
  omega

/-- A zero-page read has no side effect. -/
theorem memRead_zeroPage (z : Byte) (s : State) :
    memRead (zext16 z) s = (s, s.byteAt .ram z.toNat) := by
  have hz := z.isLt
  have h := zext16_toNat z
  unfold memRead
  rw [if_neg (by omega), if_pos (by omega)]
  have hk : ramIndex (zext16 z) = z.toNat := by
    simp only [ramIndex, BitVec.toNat_and, h]
    exact (Nat.and_two_pow_sub_one_eq_mod z.toNat 11).trans (Nat.mod_eq_of_lt (by omega))
  rw [hk]
  rfl

/-- A zero-page pointer read has no side effect. -/
theorem zpRead16_eq (z : Byte) (s : State) :
    zpRead16 z s = (s, mkWord (s.byteAt .ram (z + 1).toNat) (s.byteAt .ram z.toNat)) := by
  simp [zpRead16, memRead_zeroPage]

/-- The high byte of a word as a quotient. -/
theorem hiByte_toNat (w : Word) : (hiByte w).toNat = w.toNat / 256 := by
  have := w.isLt
  simp [hiByte, BitVec.extractLsb'_toNat, Nat.shiftRight_eq_div_pow]
  omega

/-- The low byte of a word as a remainder. -/
theorem loByte_toNat (w : Word) : (loByte w).toNat = w.toNat % 256 := by
  simp [loByte, BitVec.extractLsb'_toNat]

/-- A word of two bytes. -/
theorem mkWord_toNat (hi lo : Byte) : (mkWord hi lo).toNat = 256 * hi.toNat + lo.toNat := by
  have := lo.isLt
  simp only [mkWord, BitVec.toNat_append]
  rw [← Nat.shiftLeft_add_eq_or_of_lt (by omega)]
  simp [Nat.shiftLeft_eq]
  omega

/-- Two addresses lie in different pages exactly when their quotients by 256 differ (R194). -/
theorem pageCrossed_eq (base ea : Word) : pageCrossed base ea = decide (ea.toNat / 256 ≠ base.toNat / 256) := by
  unfold pageCrossed
  apply decide_eq_decide.mpr
  rw [← hiByte_toNat, ← hiByte_toNat]
  exact (BitVec.toNat_ne_iff_ne).symm

/-! ## Addressing modes -/

/-- A mode changes at most the working addresses of the CPU. -/
theorem access_cpu (m : Mode) (b1 b2 : Byte) (s : State) :
    ∃ ea rel, (access m b1 b2 s).state.cpu = { s.cpu with addrAbs := ea, addrRel := rel } := by
  cases m <;>
    simp only [access, modeImp, modeAcc, modeImm, modeZp, modeZpx, modeZpy, modeAbs, modeAbx, modeAby, modeInd,
      modeIzx, modeIzy, modeRel, Access.at, zpRead16_eq] <;>
    first
      | exact ⟨_, s.cpu.addrRel, rfl⟩
      | exact ⟨s.cpu.addrAbs, _, rfl⟩
      | exact ⟨_, s.cpu.addrRel, by simp only [State.setAddrAbs, memRead_cpu]; rfl⟩

/-- A mode but JMP's indirect one changes nothing outside the CPU. -/
theorem access_outside (m : Mode) (b1 b2 : Byte) (s : State) (h : m ≠ .ind) :
    SameOutside s (access m b1 b2 s).state := by
  cases m <;>
    simp only [access, modeImp, modeAcc, modeImm, modeZp, modeZpx, modeZpy, modeAbs, modeAbx, modeAby,
      modeIzx, modeIzy, modeRel, Access.at, zpRead16_eq] <;>
    first
      | exact absurd rfl h
      | exact ⟨⟨rfl, rfl, rfl, rfl, rfl⟩, rfl, rfl⟩

/-- A mode changes no byte of any memory. -/
theorem access_bytes (m : Mode) (b1 b2 : Byte) (s : State) : SameBytes s (access m b1 b2 s).state := by
  by_cases h : m = .ind
  · subst h
    exact (memRead_bytes _ s).trans (memRead_bytes _ _)
  · exact (access_outside m b1 b2 s h).bytes

/-- The mode of an instruction in a state: the CPU after it. -/
theorem accessIn_cpu (i : Instr) (s : State) :
    ∃ rel, (i.accessIn s).state.cpu =
      { s.cpu with dmaStall := 0, addrAbs := i.address s, addrRel := rel } := by
  obtain ⟨ea, rel, h⟩ := access_cpu i.mode i.operand1 i.operand2 (s.setDmaStall 0)
  refine ⟨rel, ?_⟩
  have he : i.address s = ea := by
    unfold Instr.address Instr.accessIn
    rw [h]
  rw [he]
  exact h

/-! ## The data read -/

/-- The data read of an operand: what it changes of the CPU is `fetched`. -/
theorem load_cpu (o : Operand) (s : State) : (load o s).1.cpu = { s.cpu with fetched := (load o s).2 } := by
  cases o with
  | accumulator => rfl
  | immediate b => rfl
  | memory =>
    simp only [load, State.setFetched, memRead_cpu]

theorem load_bytes (o : Operand) (s : State) : SameBytes s (load o s).1 := by
  cases o with
  | accumulator => exact (SameOutside.bytes ⟨⟨rfl, rfl, rfl, rfl, rfl⟩, rfl, rfl⟩)
  | immediate b => exact (SameOutside.bytes ⟨⟨rfl, rfl, rfl, rfl, rfl⟩, rfl, rfl⟩)
  | memory =>
    have h : SameOutside (memRead s.cpu.addrAbs s).1 (load .memory s).1 :=
      ⟨⟨rfl, rfl, rfl, rfl, rfl⟩, rfl, rfl⟩
    exact (memRead_bytes _ s).trans h.bytes

/-- The CPU after an instruction's data read. -/
theorem loadIn_cpu (i : Instr) (s : State) :
    ∃ rel, (i.loadIn s).1.cpu =
      { s.cpu with dmaStall := 0, addrAbs := i.address s, addrRel := rel, fetched := (i.loadIn s).2 } := by
  obtain ⟨rel, h⟩ := accessIn_cpu i s
  exact ⟨rel, by unfold Instr.loadIn; rw [load_cpu, h]⟩

/-- An instruction's data read changes no byte. -/
theorem loadIn_bytes (i : Instr) (s : State) : SameBytes s (i.loadIn s).1 :=
  ((SameOutside.bytes ⟨⟨rfl, rfl, rfl, rfl, rfl⟩, rfl, rfl⟩ : SameBytes s (s.setDmaStall 0)).trans
    (access_bytes _ _ _ _)).trans (load_bytes _ _)

/-! ## Completion of the instructions by their operation -/

/-- The operation of an instruction that is neither a NOP nor a branch. -/
theorem work_of (i : Instr) (o : Operation) (h : i.operation = o)
    (ho : o ∉ ([.nop, .xaa, .lxa, .bpl, .bmi, .bvc, .bvs, .bcc, .bcs, .bne, .beq] : List Operation)) :
    i.mode ≠ .rel ∧ instrWork i = operationOf o := by
  simp at ho
  constructor
  · rw [Ne, mode_rel_iff, h]
    simp [ho]
  · unfold instrWork
    rw [h]
    simp [ho]

/-- An instruction that is no branch completes, with the next state of its mode and its operation. -/
theorem completes_of (i : Instr) (s : State) (o : Operation) (h : i.operation = o)
    (ho : o ∉ ([.nop, .xaa, .lxa, .bpl, .bmi, .bvc, .bvs, .bcc, .bcs, .bne, .beq] : List Operation))
    (q : State → Prop)
    (hq : q (finishCycles (i.cost s) (operationOf o (i.accessIn s).operand (i.accessIn s).state))) :
    Completes i s q := by
  obtain ⟨hm, hw⟩ := work_of i o h ho
  refine ⟨_, exec_next i s hm, ?_⟩
  rw [hw]
  exact hq

/-- An instruction whose operation reads its operand and goes on from the state after the read completes. -/
theorem completes_read (i : Instr) (s : State) (o : Operation) (h : i.operation = o)
    (ho : o ∉ ([.nop, .xaa, .lxa, .bpl, .bmi, .bvc, .bvs, .bcc, .bcs, .bne, .beq] : List Operation))
    (f : Byte → State → State) (hf : ∀ opd st, operationOf o opd st = f (load opd st).2 (load opd st).1)
    (q : State → Prop) (hq : q (finishCycles (i.cost s) (f (i.loadIn s).2 (i.loadIn s).1))) :
    Completes i s q := by
  refine completes_of i s o h ho q ?_
  rw [hf]
  exact hq

/-- An implied instruction completes, with the next state of its operation alone. -/
theorem completes_implied (i : Instr) (s : State) (o : Operation) (h : i.operation = o)
    (ho : o ∉ ([.nop, .xaa, .lxa, .bpl, .bmi, .bvc, .bvs, .bcc, .bcs, .bne, .beq] : List Operation))
    (hm : i.mode = .imp) (q : State → Prop)
    (hq : q (finishCycles i.row.cycles (operationOf o .memory (s.setDmaStall 0)))) : Completes i s q := by
  refine completes_of i s o h ho q ?_
  have ha : i.accessIn s = modeImp (s.setDmaStall 0) := by
    unfold Instr.accessIn
    rw [hm]
    rfl
  unfold Instr.cost
  rw [ha]
  exact hq

end Sys2Proof.Machine
end

