-- ==== Sys2Proof/Laws/PerInstr.lean ====
section
/-! SUPPORT. Statements made of every instruction as syntax, one lemma for each constructor of `Instr`. -/

namespace Sys2Proof.Laws.EncodedLength

open Sys2Proof

/-- The encoding is the opcode byte and the operand bytes of the mode, one to three bytes (30_encoding.md R150,
R157). -/
def Statement (i : Instr) : Prop :=
  (encode i).length = i.mode.operandBytes + 1

theorem oraIzx (z : Byte) : Statement (.oraIzx z) := rfl
theorem sloIzx (z : Byte) : Statement (.sloIzx z) := rfl
theorem nopZp04 (z : Byte) : Statement (.nopZp04 z) := rfl
theorem oraZp (z : Byte) : Statement (.oraZp z) := rfl
theorem aslZp (z : Byte) : Statement (.aslZp z) := rfl
theorem sloZp (z : Byte) : Statement (.sloZp z) := rfl
theorem oraImm (imm : Byte) : Statement (.oraImm imm) := rfl
theorem ancImm0B (imm : Byte) : Statement (.ancImm0B imm) := rfl
theorem nopAbs (addr : Word) : Statement (.nopAbs addr) := rfl
theorem oraAbs (addr : Word) : Statement (.oraAbs addr) := rfl
theorem aslAbs (addr : Word) : Statement (.aslAbs addr) := rfl
theorem sloAbs (addr : Word) : Statement (.sloAbs addr) := rfl
theorem bpl (rel : Byte) : Statement (.bpl rel) := rfl
theorem oraIzy (z : Byte) : Statement (.oraIzy z) := rfl
theorem sloIzy (z : Byte) : Statement (.sloIzy z) := rfl
theorem nopZpx14 (z : Byte) : Statement (.nopZpx14 z) := rfl
theorem oraZpx (z : Byte) : Statement (.oraZpx z) := rfl
theorem aslZpx (z : Byte) : Statement (.aslZpx z) := rfl
theorem sloZpx (z : Byte) : Statement (.sloZpx z) := rfl
theorem oraAby (addr : Word) : Statement (.oraAby addr) := rfl
theorem sloAby (addr : Word) : Statement (.sloAby addr) := rfl
theorem nopAbx1C (addr : Word) : Statement (.nopAbx1C addr) := rfl
theorem oraAbx (addr : Word) : Statement (.oraAbx addr) := rfl
theorem aslAbx (addr : Word) : Statement (.aslAbx addr) := rfl
theorem sloAbx (addr : Word) : Statement (.sloAbx addr) := rfl
theorem jsr (addr : Word) : Statement (.jsr addr) := rfl
theorem andIzx (z : Byte) : Statement (.andIzx z) := rfl
theorem rlaIzx (z : Byte) : Statement (.rlaIzx z) := rfl
theorem bitZp (z : Byte) : Statement (.bitZp z) := rfl
theorem andZp (z : Byte) : Statement (.andZp z) := rfl
theorem rolZp (z : Byte) : Statement (.rolZp z) := rfl
theorem rlaZp (z : Byte) : Statement (.rlaZp z) := rfl
theorem andImm (imm : Byte) : Statement (.andImm imm) := rfl
theorem ancImm2B (imm : Byte) : Statement (.ancImm2B imm) := rfl
theorem bitAbs (addr : Word) : Statement (.bitAbs addr) := rfl
theorem andAbs (addr : Word) : Statement (.andAbs addr) := rfl
theorem rolAbs (addr : Word) : Statement (.rolAbs addr) := rfl
theorem rlaAbs (addr : Word) : Statement (.rlaAbs addr) := rfl
theorem bmi (rel : Byte) : Statement (.bmi rel) := rfl
theorem andIzy (z : Byte) : Statement (.andIzy z) := rfl
theorem rlaIzy (z : Byte) : Statement (.rlaIzy z) := rfl
theorem nopZpx34 (z : Byte) : Statement (.nopZpx34 z) := rfl
theorem andZpx (z : Byte) : Statement (.andZpx z) := rfl
theorem rolZpx (z : Byte) : Statement (.rolZpx z) := rfl
theorem rlaZpx (z : Byte) : Statement (.rlaZpx z) := rfl
theorem andAby (addr : Word) : Statement (.andAby addr) := rfl
theorem rlaAby (addr : Word) : Statement (.rlaAby addr) := rfl
theorem nopAbx3C (addr : Word) : Statement (.nopAbx3C addr) := rfl
theorem andAbx (addr : Word) : Statement (.andAbx addr) := rfl
theorem rolAbx (addr : Word) : Statement (.rolAbx addr) := rfl
theorem rlaAbx (addr : Word) : Statement (.rlaAbx addr) := rfl
theorem eorIzx (z : Byte) : Statement (.eorIzx z) := rfl
theorem sreIzx (z : Byte) : Statement (.sreIzx z) := rfl
theorem nopZp44 (z : Byte) : Statement (.nopZp44 z) := rfl
theorem eorZp (z : Byte) : Statement (.eorZp z) := rfl
theorem lsrZp (z : Byte) : Statement (.lsrZp z) := rfl
theorem sreZp (z : Byte) : Statement (.sreZp z) := rfl
theorem eorImm (imm : Byte) : Statement (.eorImm imm) := rfl
theorem alr (imm : Byte) : Statement (.alr imm) := rfl
theorem jmpAbs (addr : Word) : Statement (.jmpAbs addr) := rfl
theorem eorAbs (addr : Word) : Statement (.eorAbs addr) := rfl
theorem lsrAbs (addr : Word) : Statement (.lsrAbs addr) := rfl
theorem sreAbs (addr : Word) : Statement (.sreAbs addr) := rfl
theorem bvc (rel : Byte) : Statement (.bvc rel) := rfl
theorem eorIzy (z : Byte) : Statement (.eorIzy z) := rfl
theorem sreIzy (z : Byte) : Statement (.sreIzy z) := rfl
theorem nopZpx54 (z : Byte) : Statement (.nopZpx54 z) := rfl
theorem eorZpx (z : Byte) : Statement (.eorZpx z) := rfl
theorem lsrZpx (z : Byte) : Statement (.lsrZpx z) := rfl
theorem sreZpx (z : Byte) : Statement (.sreZpx z) := rfl
theorem eorAby (addr : Word) : Statement (.eorAby addr) := rfl
theorem sreAby (addr : Word) : Statement (.sreAby addr) := rfl
theorem nopAbx5C (addr : Word) : Statement (.nopAbx5C addr) := rfl
theorem eorAbx (addr : Word) : Statement (.eorAbx addr) := rfl
theorem lsrAbx (addr : Word) : Statement (.lsrAbx addr) := rfl
theorem sreAbx (addr : Word) : Statement (.sreAbx addr) := rfl
theorem adcIzx (z : Byte) : Statement (.adcIzx z) := rfl
theorem rraIzx (z : Byte) : Statement (.rraIzx z) := rfl
theorem nopZp64 (z : Byte) : Statement (.nopZp64 z) := rfl
theorem adcZp (z : Byte) : Statement (.adcZp z) := rfl
theorem rorZp (z : Byte) : Statement (.rorZp z) := rfl
theorem rraZp (z : Byte) : Statement (.rraZp z) := rfl
theorem adcImm (imm : Byte) : Statement (.adcImm imm) := rfl
theorem arr (imm : Byte) : Statement (.arr imm) := rfl
theorem jmpInd (ptr : Word) : Statement (.jmpInd ptr) := rfl
theorem adcAbs (addr : Word) : Statement (.adcAbs addr) := rfl
theorem rorAbs (addr : Word) : Statement (.rorAbs addr) := rfl
theorem rraAbs (addr : Word) : Statement (.rraAbs addr) := rfl
theorem bvs (rel : Byte) : Statement (.bvs rel) := rfl
theorem adcIzy (z : Byte) : Statement (.adcIzy z) := rfl
theorem rraIzy (z : Byte) : Statement (.rraIzy z) := rfl
theorem nopZpx74 (z : Byte) : Statement (.nopZpx74 z) := rfl
theorem adcZpx (z : Byte) : Statement (.adcZpx z) := rfl
theorem rorZpx (z : Byte) : Statement (.rorZpx z) := rfl
theorem rraZpx (z : Byte) : Statement (.rraZpx z) := rfl
theorem adcAby (addr : Word) : Statement (.adcAby addr) := rfl
theorem rraAby (addr : Word) : Statement (.rraAby addr) := rfl
theorem nopAbx7C (addr : Word) : Statement (.nopAbx7C addr) := rfl
theorem adcAbx (addr : Word) : Statement (.adcAbx addr) := rfl
theorem rorAbx (addr : Word) : Statement (.rorAbx addr) := rfl
theorem rraAbx (addr : Word) : Statement (.rraAbx addr) := rfl
theorem nopImm80 (imm : Byte) : Statement (.nopImm80 imm) := rfl
theorem staIzx (z : Byte) : Statement (.staIzx z) := rfl
theorem nopImm82 (imm : Byte) : Statement (.nopImm82 imm) := rfl
theorem saxIzx (z : Byte) : Statement (.saxIzx z) := rfl
theorem styZp (z : Byte) : Statement (.styZp z) := rfl
theorem staZp (z : Byte) : Statement (.staZp z) := rfl
theorem stxZp (z : Byte) : Statement (.stxZp z) := rfl
theorem saxZp (z : Byte) : Statement (.saxZp z) := rfl
theorem nopImm89 (imm : Byte) : Statement (.nopImm89 imm) := rfl
theorem xaa (imm : Byte) : Statement (.xaa imm) := rfl
theorem styAbs (addr : Word) : Statement (.styAbs addr) := rfl
theorem staAbs (addr : Word) : Statement (.staAbs addr) := rfl
theorem stxAbs (addr : Word) : Statement (.stxAbs addr) := rfl
theorem saxAbs (addr : Word) : Statement (.saxAbs addr) := rfl
theorem bcc (rel : Byte) : Statement (.bcc rel) := rfl
theorem staIzy (z : Byte) : Statement (.staIzy z) := rfl
theorem styZpx (z : Byte) : Statement (.styZpx z) := rfl
theorem staZpx (z : Byte) : Statement (.staZpx z) := rfl
theorem stxZpy (z : Byte) : Statement (.stxZpy z) := rfl
theorem saxZpy (z : Byte) : Statement (.saxZpy z) := rfl
theorem staAby (addr : Word) : Statement (.staAby addr) := rfl
theorem staAbx (addr : Word) : Statement (.staAbx addr) := rfl
theorem ldyImm (imm : Byte) : Statement (.ldyImm imm) := rfl
theorem ldaIzx (z : Byte) : Statement (.ldaIzx z) := rfl
theorem ldxImm (imm : Byte) : Statement (.ldxImm imm) := rfl
theorem laxIzx (z : Byte) : Statement (.laxIzx z) := rfl
theorem ldyZp (z : Byte) : Statement (.ldyZp z) := rfl
theorem ldaZp (z : Byte) : Statement (.ldaZp z) := rfl
theorem ldxZp (z : Byte) : Statement (.ldxZp z) := rfl
theorem laxZp (z : Byte) : Statement (.laxZp z) := rfl
theorem ldaImm (imm : Byte) : Statement (.ldaImm imm) := rfl
theorem lxa (imm : Byte) : Statement (.lxa imm) := rfl
theorem ldyAbs (addr : Word) : Statement (.ldyAbs addr) := rfl
theorem ldaAbs (addr : Word) : Statement (.ldaAbs addr) := rfl
theorem ldxAbs (addr : Word) : Statement (.ldxAbs addr) := rfl
theorem laxAbs (addr : Word) : Statement (.laxAbs addr) := rfl
theorem bcs (rel : Byte) : Statement (.bcs rel) := rfl
theorem ldaIzy (z : Byte) : Statement (.ldaIzy z) := rfl
theorem laxIzy (z : Byte) : Statement (.laxIzy z) := rfl
theorem ldyZpx (z : Byte) : Statement (.ldyZpx z) := rfl
theorem ldaZpx (z : Byte) : Statement (.ldaZpx z) := rfl
theorem ldxZpy (z : Byte) : Statement (.ldxZpy z) := rfl
theorem laxZpy (z : Byte) : Statement (.laxZpy z) := rfl
theorem ldaAby (addr : Word) : Statement (.ldaAby addr) := rfl
theorem ldyAbx (addr : Word) : Statement (.ldyAbx addr) := rfl
theorem ldaAbx (addr : Word) : Statement (.ldaAbx addr) := rfl
theorem ldxAby (addr : Word) : Statement (.ldxAby addr) := rfl
theorem laxAby (addr : Word) : Statement (.laxAby addr) := rfl
theorem cpyImm (imm : Byte) : Statement (.cpyImm imm) := rfl
theorem cmpIzx (z : Byte) : Statement (.cmpIzx z) := rfl
theorem nopImmC2 (imm : Byte) : Statement (.nopImmC2 imm) := rfl
theorem dcpIzx (z : Byte) : Statement (.dcpIzx z) := rfl
theorem cpyZp (z : Byte) : Statement (.cpyZp z) := rfl
theorem cmpZp (z : Byte) : Statement (.cmpZp z) := rfl
theorem decZp (z : Byte) : Statement (.decZp z) := rfl
theorem dcpZp (z : Byte) : Statement (.dcpZp z) := rfl
theorem cmpImm (imm : Byte) : Statement (.cmpImm imm) := rfl
theorem cpyAbs (addr : Word) : Statement (.cpyAbs addr) := rfl
theorem cmpAbs (addr : Word) : Statement (.cmpAbs addr) := rfl
theorem decAbs (addr : Word) : Statement (.decAbs addr) := rfl
theorem dcpAbs (addr : Word) : Statement (.dcpAbs addr) := rfl
theorem bne (rel : Byte) : Statement (.bne rel) := rfl
theorem cmpIzy (z : Byte) : Statement (.cmpIzy z) := rfl
theorem dcpIzy (z : Byte) : Statement (.dcpIzy z) := rfl
theorem nopZpxD4 (z : Byte) : Statement (.nopZpxD4 z) := rfl
theorem cmpZpx (z : Byte) : Statement (.cmpZpx z) := rfl
theorem decZpx (z : Byte) : Statement (.decZpx z) := rfl
theorem dcpZpx (z : Byte) : Statement (.dcpZpx z) := rfl
theorem cmpAby (addr : Word) : Statement (.cmpAby addr) := rfl
theorem dcpAby (addr : Word) : Statement (.dcpAby addr) := rfl
theorem nopAbxDC (addr : Word) : Statement (.nopAbxDC addr) := rfl
theorem cmpAbx (addr : Word) : Statement (.cmpAbx addr) := rfl
theorem decAbx (addr : Word) : Statement (.decAbx addr) := rfl
theorem dcpAbx (addr : Word) : Statement (.dcpAbx addr) := rfl
theorem cpxImm (imm : Byte) : Statement (.cpxImm imm) := rfl
theorem sbcIzx (z : Byte) : Statement (.sbcIzx z) := rfl
theorem nopImmE2 (imm : Byte) : Statement (.nopImmE2 imm) := rfl
theorem iscIzx (z : Byte) : Statement (.iscIzx z) := rfl
theorem cpxZp (z : Byte) : Statement (.cpxZp z) := rfl
theorem sbcZp (z : Byte) : Statement (.sbcZp z) := rfl
theorem incZp (z : Byte) : Statement (.incZp z) := rfl
theorem iscZp (z : Byte) : Statement (.iscZp z) := rfl
theorem sbcImm (imm : Byte) : Statement (.sbcImm imm) := rfl
theorem cpxAbs (addr : Word) : Statement (.cpxAbs addr) := rfl
theorem sbcAbs (addr : Word) : Statement (.sbcAbs addr) := rfl
theorem incAbs (addr : Word) : Statement (.incAbs addr) := rfl
theorem iscAbs (addr : Word) : Statement (.iscAbs addr) := rfl
theorem beq (rel : Byte) : Statement (.beq rel) := rfl
theorem sbcIzy (z : Byte) : Statement (.sbcIzy z) := rfl
theorem iscIzy (z : Byte) : Statement (.iscIzy z) := rfl
theorem nopZpxF4 (z : Byte) : Statement (.nopZpxF4 z) := rfl
theorem sbcZpx (z : Byte) : Statement (.sbcZpx z) := rfl
theorem incZpx (z : Byte) : Statement (.incZpx z) := rfl
theorem iscZpx (z : Byte) : Statement (.iscZpx z) := rfl
theorem sbcAby (addr : Word) : Statement (.sbcAby addr) := rfl
theorem iscAby (addr : Word) : Statement (.iscAby addr) := rfl
theorem nopAbxFC (addr : Word) : Statement (.nopAbxFC addr) := rfl
theorem sbcAbx (addr : Word) : Statement (.sbcAbx addr) := rfl
theorem incAbx (addr : Word) : Statement (.incAbx addr) := rfl
theorem iscAbx (addr : Word) : Statement (.iscAbx addr) := rfl
theorem brk : Statement .brk := rfl
theorem jam02 : Statement .jam02 := rfl
theorem php : Statement .php := rfl
theorem aslAcc : Statement .aslAcc := rfl
theorem jam12 : Statement .jam12 := rfl
theorem clc : Statement .clc := rfl
theorem nopImp1A : Statement .nopImp1A := rfl
theorem jam22 : Statement .jam22 := rfl
theorem plp : Statement .plp := rfl
theorem rolAcc : Statement .rolAcc := rfl
theorem jam32 : Statement .jam32 := rfl
theorem sec : Statement .sec := rfl
theorem nopImp3A : Statement .nopImp3A := rfl
theorem rti : Statement .rti := rfl
theorem jam42 : Statement .jam42 := rfl
theorem pha : Statement .pha := rfl
theorem lsrAcc : Statement .lsrAcc := rfl
theorem jam52 : Statement .jam52 := rfl
theorem cli : Statement .cli := rfl
theorem nopImp5A : Statement .nopImp5A := rfl
theorem rts : Statement .rts := rfl
theorem jam62 : Statement .jam62 := rfl
theorem pla : Statement .pla := rfl
theorem rorAcc : Statement .rorAcc := rfl
theorem jam72 : Statement .jam72 := rfl
theorem sei : Statement .sei := rfl
theorem nopImp7A : Statement .nopImp7A := rfl
theorem dey : Statement .dey := rfl
theorem txa : Statement .txa := rfl
theorem jam92 : Statement .jam92 := rfl
theorem sha93 : Statement .sha93 := rfl
theorem tya : Statement .tya := rfl
theorem txs : Statement .txs := rfl
theorem tas : Statement .tas := rfl
theorem shy : Statement .shy := rfl
theorem shx : Statement .shx := rfl
theorem sha9F : Statement .sha9F := rfl
theorem tay : Statement .tay := rfl
theorem tax : Statement .tax := rfl
theorem jamB2 : Statement .jamB2 := rfl
theorem clv : Statement .clv := rfl
theorem tsx : Statement .tsx := rfl
theorem las : Statement .las := rfl
theorem iny : Statement .iny := rfl
theorem dex : Statement .dex := rfl
theorem sbx : Statement .sbx := rfl
theorem jamD2 : Statement .jamD2 := rfl
theorem cld : Statement .cld := rfl
theorem nopImpDA : Statement .nopImpDA := rfl
theorem inx : Statement .inx := rfl
theorem nop : Statement .nop := rfl
theorem usbc : Statement .usbc := rfl
theorem jamF2 : Statement .jamF2 := rfl
theorem sed : Statement .sed := rfl
theorem nopImpFA : Statement .nopImpFA := rfl

end Sys2Proof.Laws.EncodedLength
end

