-- ==== Sys2Proof/Laws/Stores.lean ====
section
/-! SUPPORT. What a CPU bus write does to the bytes of the machine, said once for every store. -/

namespace Sys2Proof.Machine

/-- The memories that no device register can write: internal RAM, PRG-ROM and PRG-RAM. -/
def Space.cpuOwned (m : Space) : Prop := m = .ram ∨ m = .prgRom ∨ m = .prgRam

theorem mapPpu_memoryOf (f : Ppu → Ppu) (s : State) (m : Space) (h : m.cpuOwned) :
    (s.mapPpu f).memoryOf m = s.memoryOf m := by
  rcases h with rfl | rfl | rfl <;> rfl

theorem mapApu_memoryOf (f : Apu → Apu) (s : State) (m : Space) : (s.mapApu f).memoryOf m = s.memoryOf m := by
  cases m <;> rfl

/-- The OAM copy leaves the memories of the CPU side alone. -/
theorem oamCopy_memoryOf (p : Byte) (l : List Nat) (s : State) (m : Space) (h : m.cpuOwned) :
    (oamCopy p l s).memoryOf m = s.memoryOf m := by
  induction l generalizing s with
  | nil => rfl
  | cons i rest ih =>
    unfold oamCopy
    rw [ih, mapPpu_memoryOf _ _ m h, memRead_memoryOf]

/-- A PPU write leaves the memories of the CPU side alone. -/
theorem ppuWrite_memoryOf (a : Word) (v : Byte) (s : State) (m : Space) (h : m.cpuOwned) :
    (ppuWrite a v s).memoryOf m = s.memoryOf m := by
  unfold ppuWrite
  dsimp only
  split
  · split
    · rw [← mapperObserve_memoryOf (a &&& 0x3FFF) s m]
      generalize mapperObserve (a &&& 0x3FFF) s = u
      rcases h with rfl | rfl | rfl
      · rfl
      · cases hc : u.cart with
        | none => simp [State.memoryOf, State.mapCart, hc]
        | some c => simp [State.memoryOf, State.mapCart, hc, Cart.ppuWrite]; split <;> rfl
      · cases hc : u.cart with
        | none => simp [State.memoryOf, State.mapCart, hc]
        | some c => simp [State.memoryOf, State.mapCart, hc, Cart.ppuWrite]; split <;> rfl
    · rw [mapPpu_memoryOf _ _ m h, mapperObserve_memoryOf]
  · rw [mapPpu_memoryOf _ _ m h]

/-- A write of a device register leaves internal RAM, PRG-ROM and PRG-RAM alone (R103, R109, R120). -/
theorem memWrite_device_memoryOf (a : Word) (v : Byte) (s : State) (hd : DeviceAddress a) (m : Space)
    (h : m.cpuOwned) : (memWrite a v s).memoryOf m = s.memoryOf m := by
  obtain ⟨h1, h2⟩ := hd
  unfold memWrite
  rw [if_neg (by omega), if_neg (by omega)]
  split
  · unfold ppuRegWrite
    split
    · rw [mapPpu_memoryOf _ _ m h]
    · rw [mapPpu_memoryOf _ _ m h]
    · rw [mapPpu_memoryOf _ _ m h]
    · rw [mapPpu_memoryOf _ _ m h]
    · rw [mapPpu_memoryOf _ _ m h]
    · rw [mapPpu_memoryOf _ _ m h]
    · unfold writeData
      rw [mapPpu_memoryOf _ _ m h, ppuWrite_memoryOf _ _ _ m h]
    · rfl
  · split
    · have hs : (oamDma v s).memoryOf m = (oamCopy v (List.range 256) s).memoryOf m := by
        unfold oamDma
        generalize oamCopy v (List.range 256) s = u
        cases m <;> rfl
      rw [hs, oamCopy_memoryOf _ _ _ m h]
    · split
      · rcases h with rfl | rfl | rfl <;> rfl
      · split
        · rw [mapApu_memoryOf]
        · rfl

/-- The RAM index of an address is its remainder (R103). -/
theorem ramIndex_eq (a : Word) : ramIndex a = a.toNat % 2048 := by
  unfold ramIndex
  rw [BitVec.toNat_and]
  exact Nat.and_two_pow_sub_one_eq_mod a.toNat 11

/-- A write of an address that is no device register replaces the byte of its cell, if it has one, and no other. -/
theorem memWrite_quiet_bytes (a : Word) (v : Byte) (s : State) (hd : ¬ DeviceAddress a) (hm : s.MemoriesOk) :
    SameBytesBut s (memWrite a v s) (s.storedCell a) v := by
  have hram := hm.1.1
  have hcart := hm.2.2.2.2.2
  rw [memWrite_quiet a v s hd]
  intro m k
  unfold State.storedCell
  by_cases h1 : a.toNat ≤ 0x1FFF
  · rw [if_pos h1, if_pos h1]
    cases m with
    | ram =>
      show ((s.ram.write (ramIndex a) v).read k) = _
      rw [Memory.read_write _ _ _ _ hram, ramIndex_eq]
      simp [State.byteAt, State.memoryOf, eq_comm]
    | _ => rw [if_neg (by simp)]; rfl
  · rw [if_neg h1, if_neg h1]
    cases hc : s.cart with
    | none =>
      have : (s.mapCart fun c => c.cpuWrite a v) = s := by
        unfold State.mapCart
        rw [hc]
        simp only [Option.map_none]
        rw [← hc]
      rw [this, if_neg (by simp)]
    | some c =>
      have hpr := (hcart c hc).2.2.2.1.1
      have hlo : 0x4020 ≤ a.toNat := by
        have : ¬ (0x2000 ≤ a.toNat ∧ a.toNat ≤ 0x401F) := hd
        omega
      by_cases h8 : 0x8000 ≤ a.toNat
      · have hw : c.cpuWrite a v = { c with mapper := c.mapper.write a v } := by
          unfold Cart.cpuWrite
          rw [if_pos h8]
        have hcell : ¬ (0x6000 ≤ a.toNat ∧ a.toNat ≤ 0x7FFF ∧
            ((some c).map Cart.prgRamEnabled).getD false = true) := by omega
        simp only [if_neg hcell, reduceCtorEq, if_false]
        cases m <;> simp [State.byteAt, State.memoryOf, State.mapCart, hc, hw]
      · by_cases h6 : 0x6000 ≤ a.toNat
        · by_cases he : c.prgRamEnabled = true
          · have hw : c.cpuWrite a v = { c with prgRam := c.prgRam.write (a.toNat - 0x6000) v } := by
              unfold Cart.cpuWrite
              rw [if_neg h8, if_pos h6, if_pos he]
            have hcell : 0x6000 ≤ a.toNat ∧ a.toNat ≤ 0x7FFF ∧
                ((some c).map Cart.prgRamEnabled).getD false = true := ⟨h6, by omega, by simpa using he⟩
            simp only [if_pos hcell]
            cases m with
            | prgRam =>
              show ((Option.map Cart.prgRam (Option.map (fun c => c.cpuWrite a v) s.cart)).getD []).read k = _
              simp only [hc, Option.map_some, Option.getD_some, hw]
              rw [Memory.read_write _ _ _ _ hpr]
              simp [State.byteAt, State.memoryOf, hc, eq_comm]
            | _ =>
              rw [if_neg (by simp)]
              simp [State.byteAt, State.memoryOf, State.mapCart, hc, hw]
          · have hw : c.cpuWrite a v = c := by
              unfold Cart.cpuWrite
              rw [if_neg h8, if_pos h6, if_neg he]
            have hcell : ¬ (0x6000 ≤ a.toNat ∧ a.toNat ≤ 0x7FFF ∧
                ((some c).map Cart.prgRamEnabled).getD false = true) := fun h => he (by simpa using h.2.2)
            simp only [if_neg hcell, reduceCtorEq, if_false]
            cases m <;> simp [State.byteAt, State.memoryOf, State.mapCart, hc, hw]
        · have hw : c.cpuWrite a v = c := by
            unfold Cart.cpuWrite
            rw [if_neg h8, if_neg h6]
          have hcell : ¬ (0x6000 ≤ a.toNat ∧ a.toNat ≤ 0x7FFF ∧
              ((some c).map Cart.prgRamEnabled).getD false = true) := by omega
          simp only [if_neg hcell, reduceCtorEq, if_false]
          cases m <;> simp [State.byteAt, State.memoryOf, State.mapCart, hc, hw]

/-- Equal memories and cartridges give the same invariant. -/
theorem memoriesOk_of_sameOutside {s t : State} (h : SameOutside s t) (hm : s.MemoriesOk) : t.MemoriesOk := by
  obtain ⟨⟨hp, -, -, -, -⟩, hr, hc⟩ := h
  unfold State.MemoriesOk at hm ⊢
  rw [hp, hr, hc]
  exact hm

/-- Equal cartridges give the same stored cell. -/
theorem storedCell_of_sameOutside {s t : State} (h : SameOutside s t) (a : Word) :
    t.storedCell a = s.storedCell a := by
  unfold State.storedCell
  rw [h.2.2]

/-- The byte effects of a store: `u` is the state that writes, `t` the end of the instruction. -/
theorem stored_of (s u t : State) (ea : Word) (v : Byte) (hb : SameBytes s u)
    (hq : ¬ DeviceAddress ea → SameOutside s u) (ht : SameOutside (memWrite ea v u) t) :
    Stored s (memWrite ea v u) t ea v := by
  refine ⟨ht, ?_, ?_⟩
  · intro hd hm m k
    have hsu := hq hd
    have h := memWrite_quiet_bytes ea v u hd (memoriesOk_of_sameOutside hsu hm) m k
    rw [storedCell_of_sameOutside hsu] at h
    rw [ht.bytes m k, h, hb m k]
  · intro hd m k hm
    have h := memWrite_device_memoryOf ea v u hd m hm
    rw [ht.bytes m k]
    unfold State.byteAt
    rw [h]
    exact hb m k

/-! ## Storing instructions -/

set_option maxRecDepth 100000 in
/-- A read-modify-write has no immediate and no indirect mode and pays no page-cross cycle (R194, R340). -/
theorem rmw_row (i : Instr)
    (h : i.operation ∈ ([.asl, .lsr, .rol, .ror, .inc, .dec, .slo, .rla, .sre, .rra, .isc, .dcp] : List Operation)) :
    i.mode ≠ .imm ∧ i.mode ≠ .ind ∧ i.row.paysCross = false :=
  all_rows (q := fun q => q.operation ∈
    ([.asl, .lsr, .rol, .ror, .inc, .dec, .slo, .rla, .sre, .rra, .isc, .dcp] : List Operation) →
    q.mode ≠ .imm ∧ q.mode ≠ .ind ∧ q.paysCross = false) (by decide) i h

set_option maxRecDepth 100000 in
/-- A store or a read-modify-write on memory has a memory mode and pays no page-cross cycle (R194, R340). -/
theorem storing_row (i : Instr)
    (h : i.operation ∈ ([.sta, .stx, .sty, .sax, .inc, .dec, .slo, .rla, .sre, .rra, .isc, .dcp] : List Operation)) :
    i.mode ≠ .imm ∧ i.mode ≠ .acc ∧ i.mode ≠ .imp ∧ i.mode ≠ .ind ∧ i.mode ≠ .rel ∧ i.row.paysCross = false :=
  all_rows (q := fun q => q.operation ∈
    ([.sta, .stx, .sty, .sax, .inc, .dec, .slo, .rla, .sre, .rra, .isc, .dcp] : List Operation) →
    q.mode ≠ .imm ∧ q.mode ≠ .acc ∧ q.mode ≠ .imp ∧ q.mode ≠ .ind ∧ q.mode ≠ .rel ∧ q.paysCross = false) (by decide) i h

/-- Every mode but IMM and ACC has its operand in memory (R196). -/
theorem operand_memory (i : Instr) (s : State) (h1 : i.mode ≠ .imm) (h2 : i.mode ≠ .acc) :
    (i.accessIn s).operand = .memory := by
  unfold Instr.accessIn
  revert h1 h2
  generalize i.mode = m
  intro h1 h2
  cases m <;> first | rfl | exact absurd rfl h1 | exact absurd rfl h2

/-- The data read of a memory mode (R196). -/
theorem load_memory (i : Instr) (s : State) (h1 : i.mode ≠ .imm) (h2 : i.mode ≠ .acc) :
    load .memory (i.accessIn s).state = i.loadIn s := by
  unfold Instr.loadIn
  rw [operand_memory i s h1 h2]

/-- The data read keeps the effective address. -/
theorem loadIn_addrAbs (i : Instr) (s : State) : (i.loadIn s).1.cpu.addrAbs = i.address s := by
  obtain ⟨rel, hr⟩ := loadIn_cpu i s
  rw [hr]

/-- The data read keeps every flag. -/
theorem loadIn_flag (i : Instr) (s : State) (f : Flag) : (i.loadIn s).1.flag f = s.flag f := by
  obtain ⟨rel, hr⟩ := loadIn_cpu i s
  unfold State.flag
  rw [hr]

/-- A mode but JMP's indirect one changes nothing outside the CPU. -/
theorem accessIn_outside (i : Instr) (s : State) (h : i.mode ≠ .ind) : SameOutside s (i.accessIn s).state :=
  SameOutside.trans (sameOutside_withCpu _ s)
    (access_outside i.mode i.operand1 i.operand2 (s.setDmaStall 0) h)

/-- A mode changes no byte. -/
theorem accessIn_bytes (i : Instr) (s : State) : SameBytes s (i.accessIn s).state :=
  SameBytes.trans (sameOutside_withCpu _ s).bytes
    (access_bytes i.mode i.operand1 i.operand2 (s.setDmaStall 0))

/-- A data read of an address that is no device register changes nothing outside the CPU. -/
theorem loadIn_outside (i : Instr) (s : State) (h1 : i.mode ≠ .imm) (h2 : i.mode ≠ .acc) (h : i.mode ≠ .ind)
    (hd : ¬ DeviceAddress (i.address s)) : SameOutside s (i.loadIn s).1 := by
  refine (accessIn_outside i s h).trans ?_
  unfold Instr.loadIn
  rw [operand_memory i s h1 h2]
  have := memRead_quiet (i.address s) (i.accessIn s).state hd
  simp only [load]
  rw [show (i.accessIn s).state.cpu.addrAbs = i.address s from rfl, this]
  exact sameOutside_withCpu _ _

/-- A read-modify-write on memory completes: `v` is the stored byte, `a2` and `p2` are A and P at the end. -/
theorem completes_rmw (i : Instr) (s : State) (o : Operation) (h : i.operation = o)
    (ho : o ∈ ([.asl, .lsr, .rol, .ror, .inc, .dec, .slo, .rla, .sre, .rra, .isc, .dcp] : List Operation))
    (hm : i.mode ≠ .acc) (v p1 a2 p2 : Byte)
    (hop : operationOf o .memory (i.accessIn s).state =
      ((memWrite (i.address s) v ((i.loadIn s).1.setP p1)).setA a2).setP p2)
    (q : State → Prop)
    (hq : ∀ t, RegistersAre t a2 s.cpu.x s.cpu.y s.cpu.sp s.cpu.pc → t.cpu.p = p2 →
      Ends s (i.loadIn s).1 t (i.row.cycles + s.stallAt (i.address s)) →
      Stored s (memWrite (i.address s) v (i.loadIn s).1) t (i.address s) v → q t) :
    Completes i s q := by
  obtain ⟨h1, h4, h6⟩ := rmw_row i (by rw [h]; exact ho)
  have hoper := operand_memory i s h1 hm
  obtain ⟨rel, hr⟩ := loadIn_cpu i s
  have hb := loadIn_bytes i s
  have hout := loadIn_outside i s h1 hm h4
  have hcost : i.cost s = i.row.cycles := by simp [Instr.cost, h6]
  refine completes_of i s o h ?_ q ?_
  · revert ho
    clear hop h
    revert o
    decide
  rw [hoper, hop, hcost]
  generalize i.loadIn s = r at *
  have hw : (memWrite (i.address s) v (r.1.setP p1)) =
      (memWrite (i.address s) v r.1).withCpu
        { (r.1.setP p1).cpu with dmaStall := stallAfter (i.address s) (r.1.setP p1).cpu } :=
    memWrite_withCpu _ _ _ _
  rw [hw]
  generalize hu : memWrite (i.address s) v r.1 = u at *
  apply hq
  · simp [RegistersAre, hr]
  · rfl
  · simp [Ends, SameLatches, SameWorking, hr, stallAfter, State.stallAt]
  · rw [← hu]
    refine stored_of s r.1 _ _ _ hb hout ?_
    rw [hu]
    simp [SameOutside, SameDevices]

end Sys2Proof.Machine
end

