-- ==== Sys2Proof/Laws/Stack.lean ====
section
/-! SUPPORT. What the stack operations and the interrupt entry do, said once: the bytes of page 1 and SP. -/

namespace Sys2Proof.Machine

/-- A stack address is a byte of page 1 (R31). -/
theorem stackAddr_toNat (sp : Byte) : (stackAddr sp).toNat = 256 + sp.toNat := by
  have := sp.isLt
  unfold stackAddr
  rw [BitVec.toNat_add, zext16_toNat]
  simp
  omega

/-- A push replaces the byte of page 1 that SP names and decrements SP (R240). -/
theorem push_eq (v : Byte) (s : State) :
    push v s = { s with ram := s.ram.write (256 + s.cpu.sp.toNat) v, cpu := { s.cpu with sp := s.cpu.sp - 1 } } := by
  have h := stackAddr_toNat s.cpu.sp
  have := s.cpu.sp.isLt
  have hw : memWrite (stackAddr s.cpu.sp) v s = s.writeRam (stackAddr s.cpu.sp) v := by
    unfold memWrite
    rw [if_neg (by omega), if_pos (by omega)]
  unfold push
  rw [hw]
  unfold State.writeRam State.setSp
  rw [ramIndex_eq, h, Nat.mod_eq_of_lt (by omega)]

/-- A pull increments SP and reads the byte of page 1 that it names (R240). -/
theorem pull_eq (s : State) : pull s = (s.setSp (s.cpu.sp + 1), s.stackByte (s.cpu.sp + 1)) := by
  have h := stackAddr_toNat (s.cpu.sp + 1)
  have := (s.cpu.sp + 1).isLt
  show memRead (stackAddr (s.cpu.sp + 1)) (s.setSp (s.cpu.sp + 1)) = _
  unfold memRead
  rw [if_neg (by omega), if_pos (by omega), ramIndex_eq, h, Nat.mod_eq_of_lt (by omega)]
  rfl

/-- A pulled word: the low byte first (R240, R112). -/
theorem pullWord_eq (s : State) :
    pullWord s = (s.setSp (s.cpu.sp + 2),
      mkWord (s.stackByte (s.cpu.sp + 2)) (s.stackByte (s.cpu.sp + 1))) := by
  have h2 : s.cpu.sp + 1 + 1 = s.cpu.sp + 2 := by bv_omega
  unfold pullWord
  rw [pull_eq]
  simp only [pull_eq, State.setSp_cpu_sp, h2]
  rfl

/-- The bytes after a push. -/
theorem push_bytes (v : Byte) (s : State) (h : s.ram.wf = true) (m : Space) (k : Nat) :
    (push v s).byteAt m k = if m = .ram ∧ k = 256 + s.cpu.sp.toNat then v else s.byteAt m k := by
  rw [push_eq]
  cases m with
  | ram => simp [State.byteAt, State.memoryOf, Memory.read_write _ _ _ _ h]
  | _ => rw [if_neg (by simp)]; rfl

/-- A push adds its byte to those pushed before it. -/
theorem push_pushed (v : Byte) (s t : State) (l : List (Byte × Byte)) (h : t.ram.wf = true)
    (hl : PushedBytes s t l) : PushedBytes s (push v t) ((t.cpu.sp, v) :: l) := by
  intro m k
  rw [push_bytes v t h m k, List.find?]
  by_cases hc : m = .ram ∧ k = 256 + t.cpu.sp.toNat
  · simp [hc]
  · simp only [if_neg hc, decide_eq_false hc]
    exact hl m k

/-- Nothing is pushed yet. -/
theorem pushedBytes_nil (s : State) : PushedBytes s s [] := fun _ _ => rfl

/-- The pushed bytes in a state with the same memories. -/
theorem PushedBytes.same {s t u : State} {l : List (Byte × Byte)} (h : PushedBytes s t l) (k : SameOutside t u) :
    PushedBytes s u l := by
  intro m n
  rw [k.bytes m n]
  exact h m n

/-- The pushed bytes from a state with the same memories. -/
theorem PushedBytes.start {s t u : State} {l : List (Byte × Byte)} (h : PushedBytes s t l) (k : SameOutside u s) :
    PushedBytes u t l := by
  intro m n
  rw [← k.bytes m n]
  exact h m n

/-- The low byte of a word in integer arithmetic. -/
theorem loByte_eq (w : Word) : loByte w = BitVec.ofNat 8 (w.toNat % 256) := by
  apply BitVec.eq_of_toNat_eq
  rw [loByte_toNat]
  simp

/-- The high byte of a word in integer arithmetic. -/
theorem hiByte_eq (w : Word) : hiByte w = BitVec.ofNat 8 (w.toNat / 256) := by
  have := w.isLt
  apply BitVec.eq_of_toNat_eq
  rw [hiByte_toNat]
  simp
  omega

/-- A word of two bytes in integer arithmetic. -/
theorem mkWord_eq (hi lo : Byte) : mkWord hi lo = BitVec.ofNat 16 (256 * hi.toNat + lo.toNat) := by
  have := hi.isLt
  have := lo.isLt
  apply BitVec.eq_of_toNat_eq
  rw [mkWord_toNat]
  simp
  omega

/-- A push keeps the form of internal RAM. -/
theorem push_ram_wf (v : Byte) (s : State) (h : s.ram.wf = true) : (push v s).ram.wf = true := by
  rw [push_eq]
  exact Memory.write_wf _ _ _ h

@[simp] theorem push_cpu (v : Byte) (s : State) : (push v s).cpu = { s.cpu with sp := s.cpu.sp - 1 } := by
  rw [push_eq]
@[simp] theorem push_ppu (v : Byte) (s : State) : (push v s).ppu = s.ppu := by rw [push_eq]
@[simp] theorem push_apu (v : Byte) (s : State) : (push v s).apu = s.apu := by rw [push_eq]
@[simp] theorem push_ctrl (v : Byte) (s : State) : (push v s).ctrl = s.ctrl := by rw [push_eq]
@[simp] theorem push_cart (v : Byte) (s : State) : (push v s).cart = s.cart := by rw [push_eq]
@[simp] theorem push_dotCount (v : Byte) (s : State) : (push v s).dotCount = s.dotCount := by rw [push_eq]
@[simp] theorem push_config (v : Byte) (s : State) : (push v s).config = s.config := by rw [push_eq]

/-- The interrupt entry, field by field: three bytes pushed, SP down by 3, I set, PC from the vector (R410). -/
theorem interrupt_eq (vector : Word) (b : Bool) (s : State) :
    interrupt vector b s =
      let u := push (pushedP b s.cpu.p) (push (loByte s.cpu.pc) (push (hiByte s.cpu.pc) s))
      let r := memRead16 vector (u.setP (withI s.cpu.p))
      r.1.setPc r.2 := by
  unfold interrupt pushWord
  simp

/-- A read of the cartridge area looks at the cartridge alone (R105). -/
theorem memRead_cartridge (a : Word) (s : State) (h : 0x4020 ≤ a.toNat) : memRead a s = (s, s.cartRead a) := by
  unfold memRead
  rw [if_pos h]

/-- A vector in the cartridge area (R401). -/
theorem memRead16_cartridge (v : Word) (s : State) (h : 0x4020 ≤ v.toNat) (h' : v.toNat < 0xFFFF) :
    memRead16 v s = (s, mkWord (s.cartRead (v + 1)) (s.cartRead v)) := by
  unfold memRead16
  rw [memRead_cartridge v s h]
  simp only
  rw [memRead_cartridge (v + 1) s (by bv_omega)]

/-- The state after an interrupt entry through a vector in the cartridge area (R410). -/
theorem interrupt_cartridge (v : Word) (b : Bool) (s : State) (h : 0x4020 ≤ v.toNat) (h' : v.toNat < 0xFFFF) :
    interrupt v b s =
      ((push (pushedP b s.cpu.p) (push (loByte s.cpu.pc) (push (hiByte s.cpu.pc) s))).setP
        (withI s.cpu.p)).setPc (mkWord (s.cartRead (v + 1)) (s.cartRead v)) := by
  rw [interrupt_eq]
  dsimp only
  rw [memRead16_cartridge _ _ h h']
  simp [State.cartRead]

end Sys2Proof.Machine
end

