-- ==== Sys2Proof/Laws/Step.lean ====
section
/-! SUPPORT. What a PPU dot, the devices' clocks and a step can do, said once. -/

namespace Sys2Proof.Machine

/-! ## What the parts of a tick leave alone -/

/-- A relation that every part of the PPU's work keeps: reflexive, transitive, kept by a PPU change and by a PPU
bus read. -/
def PpuWork (r : State → State → Prop) : Prop :=
  (∀ s, r s s) ∧ (∀ s t u, r s t → r t u → r s u) ∧ (∀ s f, r s (s.mapPpu f)) ∧ ∀ s a, r s (ppuRead a s).1

variable {r : State → State → Prop}

theorem PpuWork.refl (h : PpuWork r) (s : State) : r s s := h.1 s

theorem PpuWork.trans (h : PpuWork r) (s t u : State) (h1 : r s t) (h2 : r t u) : r s u := h.2.1 s t u h1 h2

/-- A PPU change keeps such a relation. -/
theorem PpuWork.ppu (h : PpuWork r) (s : State) (f : Ppu → Ppu) : r s (s.mapPpu f) := h.2.2.1 s f

/-- A PPU bus read keeps such a relation. -/
theorem PpuWork.read (h : PpuWork r) (s : State) (a : Word) : r s (ppuRead a s).1 := h.2.2.2 s a

/-- A conditional change keeps such a relation. -/
theorem PpuWork.when (h : PpuWork r) (c : Bool) (f : State → State) (s : State) (hf : ∀ s, r s (f s)) :
    r s (applyWhen c f s) := by
  unfold applyWhen
  split
  · exact hf s
  · exact h.refl s

/-- A read that enters a PPU latch. -/
theorem PpuWork.readInto (h : PpuWork r) (a : Word) (f : Byte → Ppu → Ppu) (s : State) :
    r s ((ppuRead a s).1.mapPpu (f (ppuRead a s).2)) :=
  h.trans _ _ _ (h.read s a) (h.ppu _ _)

/-- The background fetches (R541). -/
theorem PpuWork.bgFetch (h : PpuWork r) (k : Nat) (s : State) : r s (bgFetch k s) := by
  unfold Machine.bgFetch
  split
  · exact h.trans _ _ _ (h.ppu s _) (h.readInto _ (fun b p => { p with bgNt := b }) _)
  · exact h.readInto _ (fun b p => { p with bgAt := attrBits p.v b }) _
  · exact h.readInto _ (fun b p => { p with bgLo := b }) _
  · exact h.readInto _ (fun b p => { p with bgHi := b }) _
  · exact h.ppu s _
  · exact h.refl s

/-- The sprite fetches (R551). -/
theorem PpuWork.fetchSprites (h : PpuWork r) (line : Int) (s : State) : r s (fetchSprites line s) := by
  unfold Machine.fetchSprites
  generalize List.range 8 = l
  induction l generalizing s with
  | nil => exact h.refl s
  | cons i rest ih =>
    refine h.trans _ _ _ ?_ (ih (fetchSlot line i s))
    unfold fetchSlot
    exact h.trans _ _ _ (h.trans _ _ _ (h.read s _) (h.read _ _)) (h.ppu _ _)

/-- The pipeline work of a dot (R540). -/
theorem PpuWork.pipelineDot (h : PpuWork r) (sl : Int) (d : Nat) (s : State) : r s (pipelineDot sl d s) := by
  unfold Machine.pipelineDot
  refine h.trans _ _ _ ?_ (h.when _ _ _ fun s => h.readInto _ (fun b p => { p with bgNt := b }) s)
  refine h.trans _ _ _ ?_ (h.when _ _ _ fun s => h.ppu s _)
  refine h.trans _ _ _ ?_ (h.when _ _ _ fun s => h.fetchSprites _ s)
  refine h.trans _ _ _ ?_ (h.when _ _ _ fun s => h.ppu s _)
  refine h.trans _ _ _ ?_ (h.when _ _ _ fun s => h.ppu s _)
  refine h.trans _ _ _ ?_ (h.when _ _ _ fun s => h.ppu s _)
  refine h.trans _ _ _ ?_ (h.when _ _ _ fun s => h.bgFetch _ s)
  exact h.when _ _ _ fun s => h.ppu s _

/-- One dot (R540). -/
theorem PpuWork.ppuDot (h : PpuWork r) (s : State) : r s (ppuDot s) := by
  unfold Machine.ppuDot
  refine h.trans _ _ _ ?_ (h.ppu _ _)
  refine h.trans _ _ _ ?_ (h.when _ _ _ fun s => h.ppu s _)
  refine h.trans _ _ _ ?_ (h.when _ _ _ fun s => h.ppu s _)
  refine h.trans _ _ _ ?_ (h.when _ _ _ fun s => h.pipelineDot _ _ s)
  exact h.when _ _ _ fun s => h.ppu s _

/-- The CPU, the APU, the controllers, RAM, the dot counter and the parameters are the same. -/
def SameBesidesPpu (s t : State) : Prop :=
  t.cpu = s.cpu ∧ t.apu = s.apu ∧ t.ctrl = s.ctrl ∧ t.ram = s.ram ∧ t.dotCount = s.dotCount ∧ t.config = s.config

/-- A PPU's work changes the PPU and the mapper alone. -/
theorem sameBesidesPpu_work : PpuWork SameBesidesPpu := by
  refine ⟨fun _ => ⟨rfl, rfl, rfl, rfl, rfl, rfl⟩, fun _ _ _ h k => ?_, fun _ _ => ⟨rfl, rfl, rfl, rfl, rfl, rfl⟩,
    fun s a => ?_⟩
  · exact ⟨k.1.trans h.1, k.2.1.trans h.2.1, k.2.2.1.trans h.2.2.1, k.2.2.2.1.trans h.2.2.2.1,
      k.2.2.2.2.1.trans h.2.2.2.2.1, k.2.2.2.2.2.trans h.2.2.2.2.2⟩
  · refine ⟨?_, ?_, ?_, ?_, ?_, ?_⟩ <;> simp

@[simp] theorem ppuDot_cpu (s : State) : (ppuDot s).cpu = s.cpu := (sameBesidesPpu_work.ppuDot s).1
@[simp] theorem ppuDot_apu (s : State) : (ppuDot s).apu = s.apu := (sameBesidesPpu_work.ppuDot s).2.1
@[simp] theorem ppuDot_ctrl (s : State) : (ppuDot s).ctrl = s.ctrl := (sameBesidesPpu_work.ppuDot s).2.2.1
@[simp] theorem ppuDot_ram (s : State) : (ppuDot s).ram = s.ram := (sameBesidesPpu_work.ppuDot s).2.2.2.1
@[simp] theorem ppuDot_dotCount (s : State) : (ppuDot s).dotCount = s.dotCount :=
  (sameBesidesPpu_work.ppuDot s).2.2.2.2.1
@[simp] theorem ppuDot_config (s : State) : (ppuDot s).config = s.config := (sameBesidesPpu_work.ppuDot s).2.2.2.2.2

/-- The DMC memory reader leaves the CPU, RAM, the dot counter and the parameters alone (R664, D40). -/
theorem dmcFill_same (s : State) :
    (dmcFill s).cpu = s.cpu ∧ (dmcFill s).ram = s.ram ∧ (dmcFill s).dotCount = s.dotCount ∧
      (dmcFill s).config = s.config := by
  unfold dmcFill
  split
  · simp [State.mapApu]
  · exact ⟨rfl, rfl, rfl, rfl⟩

/-- The devices' clocks change of the CPU only the two interrupt latches, and neither RAM nor the dot counter
(R403, R451). -/
theorem clockDevices_same (s : State) :
    (∃ n i, (clockDevices s).cpu = { s.cpu with nmiPending := n, irqPending := i }) ∧
      (clockDevices s).ram = s.ram ∧ (clockDevices s).dotCount = s.dotCount ∧
      (clockDevices s).config = s.config := by
  have h := dmcFill_same (s.mapApu (Apu.clock s.config.apuFrameScale))
  unfold clockDevices apuClock
  generalize dmcFill (s.mapApu (Apu.clock s.config.apuFrameScale)) = u at *
  obtain ⟨h1, h2, h3, h4⟩ := h
  unfold irqSample nmiSample mapperClock State.mapCart
  split
  · exact ⟨⟨true, _, by rw [← show u.cpu = s.cpu from h1]; rfl⟩, h2, h3, h4⟩
  · exact ⟨⟨u.cpu.nmiPending, _, by rw [← show u.cpu = s.cpu from h1]; rfl⟩, h2, h3, h4⟩

/-! ## The step -/

/-- What a step can be: a dot alone, a clock inside an instruction, an interrupt entry, or an instruction (R451,
R180, R404). -/
theorem step_cases (s : State) :
    (s.dotCount.toNat % 3 ≠ 0 ∧ step s = .next (countDot (ppuDot s))) ∨
    (s.dotCount.toNat % 3 = 0 ∧ s.cpu.cycles ≠ 0 ∧
      step s = .next (countDot (countClock (clockDevices (ppuDot s))))) ∨
    (s.dotCount.toNat % 3 = 0 ∧ s.cpu.cycles = 0 ∧
      ∃ o, boundary (clockDevices (ppuDot s)) = o ∧ step s = mapNext countDot (mapNext closeBoundary o)) := by
  obtain ⟨⟨n, i, hc⟩, -, -, -⟩ := clockDevices_same (ppuDot s)
  unfold step tick State.cpuTick
  simp only [ppuDot_dotCount, decide_eq_true_eq]
  by_cases h : s.dotCount.toNat % 3 = 0
  · refine .inr ?_
    rw [if_pos h]
    have hcy : (clockDevices (ppuDot s)).cpu.cycles = s.cpu.cycles := by rw [hc]; simp
    unfold cpuClock
    rw [hcy]
    by_cases h0 : s.cpu.cycles = 0
    · rw [if_pos h0]
      exact .inr ⟨h, h0, _, rfl, rfl⟩
    · rw [if_neg h0]
      exact .inl ⟨h, h0, rfl⟩
  · rw [if_neg h]
    exact .inl ⟨h, rfl⟩

/-- What an instruction boundary can be (R404, R405). -/
theorem boundary_cases (s : State) :
    (s.cpu.nmiPending = true ∧ boundary s = .next (takeNmi s)) ∨
    (s.cpu.nmiPending = false ∧ s.irqTaken = true ∧ boundary s = .next (takeIrq s)) ∨
    (s.cpu.nmiPending = false ∧ s.irqTaken = false ∧ boundary s = exec (fetch s).2 (fetch s).1) := by
  unfold boundary
  cases s.cpu.nmiPending with
  | true => exact .inl ⟨rfl, rfl⟩
  | false =>
    cases s.irqTaken with
    | true => exact .inr (.inl ⟨rfl, rfl, rfl⟩)
    | false => exact .inr (.inr ⟨rfl, rfl, rfl⟩)

end Sys2Proof.Machine
end

