-- ==== Sys2Proof/Machine/Trace.lean ====
section
/-! DEFINITION. The disassembly of an instruction and the conformance trace line
(30_encoding.md R160 to R162, decision D44). What the text of a line leaves open stands in notes/assumptions/20.md. -/

namespace Sys2Proof.Machine

/-! ## Numbers as text (R161, R162) -/

/-- A hexadecimal digit. -/
def hexDigit (n : Nat) : Char :=
  ['0', '1', '2', '3', '4', '5', '6', '7', '8', '9', 'A', 'B', 'C', 'D', 'E', 'F'].getD n '0'

/-- `nn`: a byte in two hexadecimal digits (R161, R162). -/
def hexByte (b : Byte) : String := String.ofList [hexDigit (b.toNat / 16), hexDigit (b.toNat % 16)]

/-- `nnnn`: a word in four hexadecimal digits (R161, R162). -/
def hexWord (w : Word) : String := hexByte (hiByte w) ++ hexByte (loByte w)

/-- An integer in decimal digits, right-aligned in three places (R162, D17; notes/assumptions/20.md). -/
def position (k : Int) : String :=
  let digits := (if k < 0 then ['-'] else []) ++ Nat.toDigits 10 k.natAbs
  String.ofList (List.replicate (3 - digits.length) ' ' ++ digits)

/-! ## The disassembly (R160, R161) -/

/-- The mnemonic of an operation (R160). -/
def mnemonic : Operation → String
  | .brk => "BRK" | .ora => "ORA" | .jam => "JAM" | .slo => "SLO" | .nop => "NOP" | .asl => "ASL" | .php => "PHP"
  | .anc => "ANC" | .bpl => "BPL" | .clc => "CLC" | .jsr => "JSR" | .and => "AND" | .rla => "RLA" | .bit => "BIT"
  | .rol => "ROL" | .plp => "PLP" | .bmi => "BMI" | .sec => "SEC" | .rti => "RTI" | .eor => "EOR" | .sre => "SRE"
  | .lsr => "LSR" | .pha => "PHA" | .alr => "ALR" | .jmp => "JMP" | .bvc => "BVC" | .cli => "CLI" | .rts => "RTS"
  | .adc => "ADC" | .rra => "RRA" | .ror => "ROR" | .pla => "PLA" | .arr => "ARR" | .bvs => "BVS" | .sei => "SEI"
  | .sta => "STA" | .sax => "SAX" | .sty => "STY" | .stx => "STX" | .dey => "DEY" | .txa => "TXA" | .xaa => "XAA"
  | .bcc => "BCC" | .sha => "SHA" | .tya => "TYA" | .txs => "TXS" | .tas => "TAS" | .shy => "SHY" | .shx => "SHX"
  | .ldy => "LDY" | .lda => "LDA" | .ldx => "LDX" | .lax => "LAX" | .tay => "TAY" | .tax => "TAX" | .lxa => "LXA"
  | .bcs => "BCS" | .clv => "CLV" | .tsx => "TSX" | .las => "LAS" | .cpy => "CPY" | .cmp => "CMP" | .dcp => "DCP"
  | .dec => "DEC" | .iny => "INY" | .dex => "DEX" | .sbx => "SBX" | .bne => "BNE" | .cld => "CLD" | .cpx => "CPX"
  | .sbc => "SBC" | .isc => "ISC" | .inc => "INC" | .inx => "INX" | .usbc => "USBC" | .beq => "BEQ" | .sed => "SED"

/-- The operand text of a mode, with the space before it; a branch shows its absolute target, counted from
`next`, the address after the instruction (R161, 40_addressing.md R193). -/
def operandText (m : Mode) (b1 b2 : Byte) (next : Word) : String :=
  match m with
  | .imp => ""
  | .acc => " A"
  | .imm => " #$" ++ hexByte b1
  | .zp => " $" ++ hexByte b1
  | .zpx => " $" ++ hexByte b1 ++ ",X"
  | .zpy => " $" ++ hexByte b1 ++ ",Y"
  | .abs => " $" ++ hexWord (mkWord b2 b1)
  | .abx => " $" ++ hexWord (mkWord b2 b1) ++ ",X"
  | .aby => " $" ++ hexWord (mkWord b2 b1) ++ ",Y"
  | .ind => " ($" ++ hexWord (mkWord b2 b1) ++ ")"
  | .izx => " ($" ++ hexByte b1 ++ ",X)"
  | .izy => " ($" ++ hexByte b1 ++ "),Y"
  | .rel => " $" ++ hexWord (next + sext16 b1)

/-- The disassembly of an instruction at an address (R161). -/
def disassemble (pc : Word) (i : Instr) : String :=
  mnemonic i.operation ++ operandText i.mode i.operand1 i.operand2 (pc + BitVec.ofNat 16 i.length)

/-! ## The trace line (R162, D44) -/

/-- A line of the trace: the fields at a CPU clock that fetches an opcode, before the instruction executes. -/
structure TraceLine where
  pc : Word
  instr : Instr
  a : Byte
  x : Byte
  y : Byte
  p : Byte
  sp : Byte
  scanline : Int
  dot : Nat
  cyc : BitVec 64
  deriving DecidableEq, Repr

/-- The instruction's bytes in hexadecimal, a space between two of them (R162; notes/assumptions/20.md). -/
def TraceLine.bytesText (l : TraceLine) : String := String.intercalate " " ((encode l.instr).map hexByte)

/-- The line as text: "PC  bytes  mnemonic operand  A:xx X:xx Y:xx P:xx SP:xx PPU:ss,dd CYC:n" (R162). -/
def TraceLine.text (l : TraceLine) : String :=
  hexWord l.pc ++ "  " ++ l.bytesText ++ "  " ++ disassemble l.pc l.instr ++
    "  A:" ++ hexByte l.a ++ " X:" ++ hexByte l.x ++ " Y:" ++ hexByte l.y ++ " P:" ++ hexByte l.p ++
    " SP:" ++ hexByte l.sp ++ " PPU:" ++ position l.scanline ++ "," ++ position l.dot ++
    " CYC:" ++ String.ofList (Nat.toDigits 10 l.cyc.toNat)

/-- The trace line of a tick, if the tick fetches an opcode: the registers before it executes, the PPU position
that this tick's dot executed and `total_cycles` before the clock (R162, D44). -/
def State.traceLine (s : State) : Option TraceLine :=
  let s1 := ppuDot s
  let s2 := clockDevices s1
  if s1.cpuTick && (decide (s2.cpu.cycles = 0) && (!s2.cpu.nmiPending && !s2.irqTaken)) then
    some
      { pc := s2.cpu.pc, instr := (fetch s2).2, a := s2.cpu.a, x := s2.cpu.x, y := s2.cpu.y, p := s2.cpu.p,
        sp := s2.cpu.sp, scanline := s.ppu.scanline, dot := s.ppu.dot, cyc := s2.cpu.totalCycles }
  else none

end Sys2Proof.Machine
end

