-- ==== Sys2Proof/Tests/Slice0.lean ====
section
/-! SUPPORT. Tests of the model against the spec's own encodings and vectors, and the witnesses of the statements'
hypotheses. Each test names the rule or the vector of 95_test_vectors.md that its expected value comes from. -/

namespace Sys2Proof.Tests

open Sys2Proof Sys2Proof.Machine

/-! ## Decoding: every word of the opcode table (30_encoding.md R150, R153, R160) -/

/-- Words of R160, opcodes $00 to $0F. -/
theorem test_decode_0x :
    decode [0x00] = .ok (.brk, []) ∧
    decode [0x01, 0x56] = .ok (.oraIzx 0x56, []) ∧
    decode [0x02] = .ok (.jam02, []) ∧
    decode [0x03, 0x56] = .ok (.sloIzx 0x56, []) ∧
    decode [0x04, 0x56] = .ok (.nopZp04 0x56, []) ∧
    decode [0x05, 0x56] = .ok (.oraZp 0x56, []) ∧
    decode [0x06, 0x56] = .ok (.aslZp 0x56, []) ∧
    decode [0x07, 0x56] = .ok (.sloZp 0x56, []) ∧
    decode [0x08] = .ok (.php, []) ∧
    decode [0x09, 0x56] = .ok (.oraImm 0x56, []) ∧
    decode [0x0A] = .ok (.aslAcc, []) ∧
    decode [0x0B, 0x56] = .ok (.ancImm0B 0x56, []) ∧
    decode [0x0C, 0x34, 0x12] = .ok (.nopAbs 0x1234, []) ∧
    decode [0x0D, 0x34, 0x12] = .ok (.oraAbs 0x1234, []) ∧
    decode [0x0E, 0x34, 0x12] = .ok (.aslAbs 0x1234, []) ∧
    decode [0x0F, 0x34, 0x12] = .ok (.sloAbs 0x1234, []) :=
  ⟨rfl, rfl, rfl, rfl, rfl, rfl, rfl, rfl, rfl, rfl, rfl, rfl, rfl, rfl, rfl, rfl⟩

/-- Words of R160, opcodes $10 to $1F. -/
theorem test_decode_1x :
    decode [0x10, 0x56] = .ok (.bpl 0x56, []) ∧
    decode [0x11, 0x56] = .ok (.oraIzy 0x56, []) ∧
    decode [0x12] = .ok (.jam12, []) ∧
    decode [0x13, 0x56] = .ok (.sloIzy 0x56, []) ∧
    decode [0x14, 0x56] = .ok (.nopZpx14 0x56, []) ∧
    decode [0x15, 0x56] = .ok (.oraZpx 0x56, []) ∧
    decode [0x16, 0x56] = .ok (.aslZpx 0x56, []) ∧
    decode [0x17, 0x56] = .ok (.sloZpx 0x56, []) ∧
    decode [0x18] = .ok (.clc, []) ∧
    decode [0x19, 0x34, 0x12] = .ok (.oraAby 0x1234, []) ∧
    decode [0x1A] = .ok (.nopImp1A, []) ∧
    decode [0x1B, 0x34, 0x12] = .ok (.sloAby 0x1234, []) ∧
    decode [0x1C, 0x34, 0x12] = .ok (.nopAbx1C 0x1234, []) ∧
    decode [0x1D, 0x34, 0x12] = .ok (.oraAbx 0x1234, []) ∧
    decode [0x1E, 0x34, 0x12] = .ok (.aslAbx 0x1234, []) ∧
    decode [0x1F, 0x34, 0x12] = .ok (.sloAbx 0x1234, []) :=
  ⟨rfl, rfl, rfl, rfl, rfl, rfl, rfl, rfl, rfl, rfl, rfl, rfl, rfl, rfl, rfl, rfl⟩

/-- Words of R160, opcodes $20 to $2F. -/
theorem test_decode_2x :
    decode [0x20, 0x34, 0x12] = .ok (.jsr 0x1234, []) ∧
    decode [0x21, 0x56] = .ok (.andIzx 0x56, []) ∧
    decode [0x22] = .ok (.jam22, []) ∧
    decode [0x23, 0x56] = .ok (.rlaIzx 0x56, []) ∧
    decode [0x24, 0x56] = .ok (.bitZp 0x56, []) ∧
    decode [0x25, 0x56] = .ok (.andZp 0x56, []) ∧
    decode [0x26, 0x56] = .ok (.rolZp 0x56, []) ∧
    decode [0x27, 0x56] = .ok (.rlaZp 0x56, []) ∧
    decode [0x28] = .ok (.plp, []) ∧
    decode [0x29, 0x56] = .ok (.andImm 0x56, []) ∧
    decode [0x2A] = .ok (.rolAcc, []) ∧
    decode [0x2B, 0x56] = .ok (.ancImm2B 0x56, []) ∧
    decode [0x2C, 0x34, 0x12] = .ok (.bitAbs 0x1234, []) ∧
    decode [0x2D, 0x34, 0x12] = .ok (.andAbs 0x1234, []) ∧
    decode [0x2E, 0x34, 0x12] = .ok (.rolAbs 0x1234, []) ∧
    decode [0x2F, 0x34, 0x12] = .ok (.rlaAbs 0x1234, []) :=
  ⟨rfl, rfl, rfl, rfl, rfl, rfl, rfl, rfl, rfl, rfl, rfl, rfl, rfl, rfl, rfl, rfl⟩

/-- Words of R160, opcodes $30 to $3F. -/
theorem test_decode_3x :
    decode [0x30, 0x56] = .ok (.bmi 0x56, []) ∧
    decode [0x31, 0x56] = .ok (.andIzy 0x56, []) ∧
    decode [0x32] = .ok (.jam32, []) ∧
    decode [0x33, 0x56] = .ok (.rlaIzy 0x56, []) ∧
    decode [0x34, 0x56] = .ok (.nopZpx34 0x56, []) ∧
    decode [0x35, 0x56] = .ok (.andZpx 0x56, []) ∧
    decode [0x36, 0x56] = .ok (.rolZpx 0x56, []) ∧
    decode [0x37, 0x56] = .ok (.rlaZpx 0x56, []) ∧
    decode [0x38] = .ok (.sec, []) ∧
    decode [0x39, 0x34, 0x12] = .ok (.andAby 0x1234, []) ∧
    decode [0x3A] = .ok (.nopImp3A, []) ∧
    decode [0x3B, 0x34, 0x12] = .ok (.rlaAby 0x1234, []) ∧
    decode [0x3C, 0x34, 0x12] = .ok (.nopAbx3C 0x1234, []) ∧
    decode [0x3D, 0x34, 0x12] = .ok (.andAbx 0x1234, []) ∧
    decode [0x3E, 0x34, 0x12] = .ok (.rolAbx 0x1234, []) ∧
    decode [0x3F, 0x34, 0x12] = .ok (.rlaAbx 0x1234, []) :=
  ⟨rfl, rfl, rfl, rfl, rfl, rfl, rfl, rfl, rfl, rfl, rfl, rfl, rfl, rfl, rfl, rfl⟩

/-- Words of R160, opcodes $40 to $4F. -/
theorem test_decode_4x :
    decode [0x40] = .ok (.rti, []) ∧
    decode [0x41, 0x56] = .ok (.eorIzx 0x56, []) ∧
    decode [0x42] = .ok (.jam42, []) ∧
    decode [0x43, 0x56] = .ok (.sreIzx 0x56, []) ∧
    decode [0x44, 0x56] = .ok (.nopZp44 0x56, []) ∧
    decode [0x45, 0x56] = .ok (.eorZp 0x56, []) ∧
    decode [0x46, 0x56] = .ok (.lsrZp 0x56, []) ∧
    decode [0x47, 0x56] = .ok (.sreZp 0x56, []) ∧
    decode [0x48] = .ok (.pha, []) ∧
    decode [0x49, 0x56] = .ok (.eorImm 0x56, []) ∧
    decode [0x4A] = .ok (.lsrAcc, []) ∧
    decode [0x4B, 0x56] = .ok (.alr 0x56, []) ∧
    decode [0x4C, 0x34, 0x12] = .ok (.jmpAbs 0x1234, []) ∧
    decode [0x4D, 0x34, 0x12] = .ok (.eorAbs 0x1234, []) ∧
    decode [0x4E, 0x34, 0x12] = .ok (.lsrAbs 0x1234, []) ∧
    decode [0x4F, 0x34, 0x12] = .ok (.sreAbs 0x1234, []) :=
  ⟨rfl, rfl, rfl, rfl, rfl, rfl, rfl, rfl, rfl, rfl, rfl, rfl, rfl, rfl, rfl, rfl⟩

/-- Words of R160, opcodes $50 to $5F. -/
theorem test_decode_5x :
    decode [0x50, 0x56] = .ok (.bvc 0x56, []) ∧
    decode [0x51, 0x56] = .ok (.eorIzy 0x56, []) ∧
    decode [0x52] = .ok (.jam52, []) ∧
    decode [0x53, 0x56] = .ok (.sreIzy 0x56, []) ∧
    decode [0x54, 0x56] = .ok (.nopZpx54 0x56, []) ∧
    decode [0x55, 0x56] = .ok (.eorZpx 0x56, []) ∧
    decode [0x56, 0x56] = .ok (.lsrZpx 0x56, []) ∧
    decode [0x57, 0x56] = .ok (.sreZpx 0x56, []) ∧
    decode [0x58] = .ok (.cli, []) ∧
    decode [0x59, 0x34, 0x12] = .ok (.eorAby 0x1234, []) ∧
    decode [0x5A] = .ok (.nopImp5A, []) ∧
    decode [0x5B, 0x34, 0x12] = .ok (.sreAby 0x1234, []) ∧
    decode [0x5C, 0x34, 0x12] = .ok (.nopAbx5C 0x1234, []) ∧
    decode [0x5D, 0x34, 0x12] = .ok (.eorAbx 0x1234, []) ∧
    decode [0x5E, 0x34, 0x12] = .ok (.lsrAbx 0x1234, []) ∧
    decode [0x5F, 0x34, 0x12] = .ok (.sreAbx 0x1234, []) :=
  ⟨rfl, rfl, rfl, rfl, rfl, rfl, rfl, rfl, rfl, rfl, rfl, rfl, rfl, rfl, rfl, rfl⟩

/-- Words of R160, opcodes $60 to $6F. -/
theorem test_decode_6x :
    decode [0x60] = .ok (.rts, []) ∧
    decode [0x61, 0x56] = .ok (.adcIzx 0x56, []) ∧
    decode [0x62] = .ok (.jam62, []) ∧
    decode [0x63, 0x56] = .ok (.rraIzx 0x56, []) ∧
    decode [0x64, 0x56] = .ok (.nopZp64 0x56, []) ∧
    decode [0x65, 0x56] = .ok (.adcZp 0x56, []) ∧
    decode [0x66, 0x56] = .ok (.rorZp 0x56, []) ∧
    decode [0x67, 0x56] = .ok (.rraZp 0x56, []) ∧
    decode [0x68] = .ok (.pla, []) ∧
    decode [0x69, 0x56] = .ok (.adcImm 0x56, []) ∧
    decode [0x6A] = .ok (.rorAcc, []) ∧
    decode [0x6B, 0x56] = .ok (.arr 0x56, []) ∧
    decode [0x6C, 0x34, 0x12] = .ok (.jmpInd 0x1234, []) ∧
    decode [0x6D, 0x34, 0x12] = .ok (.adcAbs 0x1234, []) ∧
    decode [0x6E, 0x34, 0x12] = .ok (.rorAbs 0x1234, []) ∧
    decode [0x6F, 0x34, 0x12] = .ok (.rraAbs 0x1234, []) :=
  ⟨rfl, rfl, rfl, rfl, rfl, rfl, rfl, rfl, rfl, rfl, rfl, rfl, rfl, rfl, rfl, rfl⟩

/-- Words of R160, opcodes $70 to $7F. -/
theorem test_decode_7x :
    decode [0x70, 0x56] = .ok (.bvs 0x56, []) ∧
    decode [0x71, 0x56] = .ok (.adcIzy 0x56, []) ∧
    decode [0x72] = .ok (.jam72, []) ∧
    decode [0x73, 0x56] = .ok (.rraIzy 0x56, []) ∧
    decode [0x74, 0x56] = .ok (.nopZpx74 0x56, []) ∧
    decode [0x75, 0x56] = .ok (.adcZpx 0x56, []) ∧
    decode [0x76, 0x56] = .ok (.rorZpx 0x56, []) ∧
    decode [0x77, 0x56] = .ok (.rraZpx 0x56, []) ∧
    decode [0x78] = .ok (.sei, []) ∧
    decode [0x79, 0x34, 0x12] = .ok (.adcAby 0x1234, []) ∧
    decode [0x7A] = .ok (.nopImp7A, []) ∧
    decode [0x7B, 0x34, 0x12] = .ok (.rraAby 0x1234, []) ∧
    decode [0x7C, 0x34, 0x12] = .ok (.nopAbx7C 0x1234, []) ∧
    decode [0x7D, 0x34, 0x12] = .ok (.adcAbx 0x1234, []) ∧
    decode [0x7E, 0x34, 0x12] = .ok (.rorAbx 0x1234, []) ∧
    decode [0x7F, 0x34, 0x12] = .ok (.rraAbx 0x1234, []) :=
  ⟨rfl, rfl, rfl, rfl, rfl, rfl, rfl, rfl, rfl, rfl, rfl, rfl, rfl, rfl, rfl, rfl⟩

/-- Words of R160, opcodes $80 to $8F. -/
theorem test_decode_8x :
    decode [0x80, 0x56] = .ok (.nopImm80 0x56, []) ∧
    decode [0x81, 0x56] = .ok (.staIzx 0x56, []) ∧
    decode [0x82, 0x56] = .ok (.nopImm82 0x56, []) ∧
    decode [0x83, 0x56] = .ok (.saxIzx 0x56, []) ∧
    decode [0x84, 0x56] = .ok (.styZp 0x56, []) ∧
    decode [0x85, 0x56] = .ok (.staZp 0x56, []) ∧
    decode [0x86, 0x56] = .ok (.stxZp 0x56, []) ∧
    decode [0x87, 0x56] = .ok (.saxZp 0x56, []) ∧
    decode [0x88] = .ok (.dey, []) ∧
    decode [0x89, 0x56] = .ok (.nopImm89 0x56, []) ∧
    decode [0x8A] = .ok (.txa, []) ∧
    decode [0x8B, 0x56] = .ok (.xaa 0x56, []) ∧
    decode [0x8C, 0x34, 0x12] = .ok (.styAbs 0x1234, []) ∧
    decode [0x8D, 0x34, 0x12] = .ok (.staAbs 0x1234, []) ∧
    decode [0x8E, 0x34, 0x12] = .ok (.stxAbs 0x1234, []) ∧
    decode [0x8F, 0x34, 0x12] = .ok (.saxAbs 0x1234, []) :=
  ⟨rfl, rfl, rfl, rfl, rfl, rfl, rfl, rfl, rfl, rfl, rfl, rfl, rfl, rfl, rfl, rfl⟩

/-- Words of R160, opcodes $90 to $9F. -/
theorem test_decode_9x :
    decode [0x90, 0x56] = .ok (.bcc 0x56, []) ∧
    decode [0x91, 0x56] = .ok (.staIzy 0x56, []) ∧
    decode [0x92] = .ok (.jam92, []) ∧
    decode [0x93] = .ok (.sha93, []) ∧
    decode [0x94, 0x56] = .ok (.styZpx 0x56, []) ∧
    decode [0x95, 0x56] = .ok (.staZpx 0x56, []) ∧
    decode [0x96, 0x56] = .ok (.stxZpy 0x56, []) ∧
    decode [0x97, 0x56] = .ok (.saxZpy 0x56, []) ∧
    decode [0x98] = .ok (.tya, []) ∧
    decode [0x99, 0x34, 0x12] = .ok (.staAby 0x1234, []) ∧
    decode [0x9A] = .ok (.txs, []) ∧
    decode [0x9B] = .ok (.tas, []) ∧
    decode [0x9C] = .ok (.shy, []) ∧
    decode [0x9D, 0x34, 0x12] = .ok (.staAbx 0x1234, []) ∧
    decode [0x9E] = .ok (.shx, []) ∧
    decode [0x9F] = .ok (.sha9F, []) :=
  ⟨rfl, rfl, rfl, rfl, rfl, rfl, rfl, rfl, rfl, rfl, rfl, rfl, rfl, rfl, rfl, rfl⟩

/-- Words of R160, opcodes $A0 to $AF. -/
theorem test_decode_Ax :
    decode [0xA0, 0x56] = .ok (.ldyImm 0x56, []) ∧
    decode [0xA1, 0x56] = .ok (.ldaIzx 0x56, []) ∧
    decode [0xA2, 0x56] = .ok (.ldxImm 0x56, []) ∧
    decode [0xA3, 0x56] = .ok (.laxIzx 0x56, []) ∧
    decode [0xA4, 0x56] = .ok (.ldyZp 0x56, []) ∧
    decode [0xA5, 0x56] = .ok (.ldaZp 0x56, []) ∧
    decode [0xA6, 0x56] = .ok (.ldxZp 0x56, []) ∧
    decode [0xA7, 0x56] = .ok (.laxZp 0x56, []) ∧
    decode [0xA8] = .ok (.tay, []) ∧
    decode [0xA9, 0x56] = .ok (.ldaImm 0x56, []) ∧
    decode [0xAA] = .ok (.tax, []) ∧
    decode [0xAB, 0x56] = .ok (.lxa 0x56, []) ∧
    decode [0xAC, 0x34, 0x12] = .ok (.ldyAbs 0x1234, []) ∧
    decode [0xAD, 0x34, 0x12] = .ok (.ldaAbs 0x1234, []) ∧
    decode [0xAE, 0x34, 0x12] = .ok (.ldxAbs 0x1234, []) ∧
    decode [0xAF, 0x34, 0x12] = .ok (.laxAbs 0x1234, []) :=
  ⟨rfl, rfl, rfl, rfl, rfl, rfl, rfl, rfl, rfl, rfl, rfl, rfl, rfl, rfl, rfl, rfl⟩

/-- Words of R160, opcodes $B0 to $BF. -/
theorem test_decode_Bx :
    decode [0xB0, 0x56] = .ok (.bcs 0x56, []) ∧
    decode [0xB1, 0x56] = .ok (.ldaIzy 0x56, []) ∧
    decode [0xB2] = .ok (.jamB2, []) ∧
    decode [0xB3, 0x56] = .ok (.laxIzy 0x56, []) ∧
    decode [0xB4, 0x56] = .ok (.ldyZpx 0x56, []) ∧
    decode [0xB5, 0x56] = .ok (.ldaZpx 0x56, []) ∧
    decode [0xB6, 0x56] = .ok (.ldxZpy 0x56, []) ∧
    decode [0xB7, 0x56] = .ok (.laxZpy 0x56, []) ∧
    decode [0xB8] = .ok (.clv, []) ∧
    decode [0xB9, 0x34, 0x12] = .ok (.ldaAby 0x1234, []) ∧
    decode [0xBA] = .ok (.tsx, []) ∧
    decode [0xBB] = .ok (.las, []) ∧
    decode [0xBC, 0x34, 0x12] = .ok (.ldyAbx 0x1234, []) ∧
    decode [0xBD, 0x34, 0x12] = .ok (.ldaAbx 0x1234, []) ∧
    decode [0xBE, 0x34, 0x12] = .ok (.ldxAby 0x1234, []) ∧
    decode [0xBF, 0x34, 0x12] = .ok (.laxAby 0x1234, []) :=
  ⟨rfl, rfl, rfl, rfl, rfl, rfl, rfl, rfl, rfl, rfl, rfl, rfl, rfl, rfl, rfl, rfl⟩

/-- Words of R160, opcodes $C0 to $CF. -/
theorem test_decode_Cx :
    decode [0xC0, 0x56] = .ok (.cpyImm 0x56, []) ∧
    decode [0xC1, 0x56] = .ok (.cmpIzx 0x56, []) ∧
    decode [0xC2, 0x56] = .ok (.nopImmC2 0x56, []) ∧
    decode [0xC3, 0x56] = .ok (.dcpIzx 0x56, []) ∧
    decode [0xC4, 0x56] = .ok (.cpyZp 0x56, []) ∧
    decode [0xC5, 0x56] = .ok (.cmpZp 0x56, []) ∧
    decode [0xC6, 0x56] = .ok (.decZp 0x56, []) ∧
    decode [0xC7, 0x56] = .ok (.dcpZp 0x56, []) ∧
    decode [0xC8] = .ok (.iny, []) ∧
    decode [0xC9, 0x56] = .ok (.cmpImm 0x56, []) ∧
    decode [0xCA] = .ok (.dex, []) ∧
    decode [0xCB] = .ok (.sbx, []) ∧
    decode [0xCC, 0x34, 0x12] = .ok (.cpyAbs 0x1234, []) ∧
    decode [0xCD, 0x34, 0x12] = .ok (.cmpAbs 0x1234, []) ∧
    decode [0xCE, 0x34, 0x12] = .ok (.decAbs 0x1234, []) ∧
    decode [0xCF, 0x34, 0x12] = .ok (.dcpAbs 0x1234, []) :=
  ⟨rfl, rfl, rfl, rfl, rfl, rfl, rfl, rfl, rfl, rfl, rfl, rfl, rfl, rfl, rfl, rfl⟩

/-- Words of R160, opcodes $D0 to $DF. -/
theorem test_decode_Dx :
    decode [0xD0, 0x56] = .ok (.bne 0x56, []) ∧
    decode [0xD1, 0x56] = .ok (.cmpIzy 0x56, []) ∧
    decode [0xD2] = .ok (.jamD2, []) ∧
    decode [0xD3, 0x56] = .ok (.dcpIzy 0x56, []) ∧
    decode [0xD4, 0x56] = .ok (.nopZpxD4 0x56, []) ∧
    decode [0xD5, 0x56] = .ok (.cmpZpx 0x56, []) ∧
    decode [0xD6, 0x56] = .ok (.decZpx 0x56, []) ∧
    decode [0xD7, 0x56] = .ok (.dcpZpx 0x56, []) ∧
    decode [0xD8] = .ok (.cld, []) ∧
    decode [0xD9, 0x34, 0x12] = .ok (.cmpAby 0x1234, []) ∧
    decode [0xDA] = .ok (.nopImpDA, []) ∧
    decode [0xDB, 0x34, 0x12] = .ok (.dcpAby 0x1234, []) ∧
    decode [0xDC, 0x34, 0x12] = .ok (.nopAbxDC 0x1234, []) ∧
    decode [0xDD, 0x34, 0x12] = .ok (.cmpAbx 0x1234, []) ∧
    decode [0xDE, 0x34, 0x12] = .ok (.decAbx 0x1234, []) ∧
    decode [0xDF, 0x34, 0x12] = .ok (.dcpAbx 0x1234, []) :=
  ⟨rfl, rfl, rfl, rfl, rfl, rfl, rfl, rfl, rfl, rfl, rfl, rfl, rfl, rfl, rfl, rfl⟩

/-- Words of R160, opcodes $E0 to $EF. -/
theorem test_decode_Ex :
    decode [0xE0, 0x56] = .ok (.cpxImm 0x56, []) ∧
    decode [0xE1, 0x56] = .ok (.sbcIzx 0x56, []) ∧
    decode [0xE2, 0x56] = .ok (.nopImmE2 0x56, []) ∧
    decode [0xE3, 0x56] = .ok (.iscIzx 0x56, []) ∧
    decode [0xE4, 0x56] = .ok (.cpxZp 0x56, []) ∧
    decode [0xE5, 0x56] = .ok (.sbcZp 0x56, []) ∧
    decode [0xE6, 0x56] = .ok (.incZp 0x56, []) ∧
    decode [0xE7, 0x56] = .ok (.iscZp 0x56, []) ∧
    decode [0xE8] = .ok (.inx, []) ∧
    decode [0xE9, 0x56] = .ok (.sbcImm 0x56, []) ∧
    decode [0xEA] = .ok (.nop, []) ∧
    decode [0xEB] = .ok (.usbc, []) ∧
    decode [0xEC, 0x34, 0x12] = .ok (.cpxAbs 0x1234, []) ∧
    decode [0xED, 0x34, 0x12] = .ok (.sbcAbs 0x1234, []) ∧
    decode [0xEE, 0x34, 0x12] = .ok (.incAbs 0x1234, []) ∧
    decode [0xEF, 0x34, 0x12] = .ok (.iscAbs 0x1234, []) :=
  ⟨rfl, rfl, rfl, rfl, rfl, rfl, rfl, rfl, rfl, rfl, rfl, rfl, rfl, rfl, rfl, rfl⟩

/-- Words of R160, opcodes $F0 to $FF. -/
theorem test_decode_Fx :
    decode [0xF0, 0x56] = .ok (.beq 0x56, []) ∧
    decode [0xF1, 0x56] = .ok (.sbcIzy 0x56, []) ∧
    decode [0xF2] = .ok (.jamF2, []) ∧
    decode [0xF3, 0x56] = .ok (.iscIzy 0x56, []) ∧
    decode [0xF4, 0x56] = .ok (.nopZpxF4 0x56, []) ∧
    decode [0xF5, 0x56] = .ok (.sbcZpx 0x56, []) ∧
    decode [0xF6, 0x56] = .ok (.incZpx 0x56, []) ∧
    decode [0xF7, 0x56] = .ok (.iscZpx 0x56, []) ∧
    decode [0xF8] = .ok (.sed, []) ∧
    decode [0xF9, 0x34, 0x12] = .ok (.sbcAby 0x1234, []) ∧
    decode [0xFA] = .ok (.nopImpFA, []) ∧
    decode [0xFB, 0x34, 0x12] = .ok (.iscAby 0x1234, []) ∧
    decode [0xFC, 0x34, 0x12] = .ok (.nopAbxFC 0x1234, []) ∧
    decode [0xFD, 0x34, 0x12] = .ok (.sbcAbx 0x1234, []) ∧
    decode [0xFE, 0x34, 0x12] = .ok (.incAbx 0x1234, []) ∧
    decode [0xFF, 0x34, 0x12] = .ok (.iscAbx 0x1234, []) :=
  ⟨rfl, rfl, rfl, rfl, rfl, rfl, rfl, rfl, rfl, rfl, rfl, rfl, rfl, rfl, rfl, rfl⟩

/-! ## Instructions: the derived vectors V1 to V8 -/

/-- The power-on registers with PC past a two-byte instruction at $8000, at an instruction's work. -/
def start : State := (State.reset.setPc 0x8002).setCycles 0

/-- RAM replaced. -/
def withRam (m : Memory) (s : State) : State := { s with ram := m }

/-- The vectors of V9: NMI $9100, reset $8000, IRQ and BRK $9200, in an NROM cartridge of one bank. -/
def vectorCart : Cart :=
  { prgRom := [(0x3FFB, 0x91), (0x3FFD, 0x80), (0x3FFF, 0x92)], prgBanks := 1, chr := [], chrBanks := 1,
    chrIsRam := true, header := .vertical, prgRam := [], mapper := .nrom }

/-- The cartridge with those vectors loaded. -/
def withVectors (s : State) : State := { s with cart := some vectorCart }

/-- Vblank and the write toggle set. -/
def withVblank (s : State) : State := s.mapPpu fun p => { p with vblank := true, w := true }

/-- A part of the next state of an instruction. -/
def after {α : Type} (i : Instr) (s : State) (f : State → α) : Option α :=
  match exec i s with
  | .next t => some (f t)
  | .fault _ => none
  | .refused _ => none

/-- A part of the next state of an outcome. -/
def part {α : Type} (o : Host.Outcome State Fault Refusal) (f : State → α) : Option α :=
  match o with
  | .next t => some (f t)
  | .fault _ => none
  | .refused _ => none

/-- 95_test_vectors.md V1.1. -/
theorem test_zpx_wraps :
    after (.ldaZpx 0xF0) (start.setX 0x20) (fun t => (t.cpu.addrAbs, t.cpu.cycles)) = some (0x0010, 4) := by decide

/-- 95_test_vectors.md V1.2. -/
theorem test_zpy_wraps :
    after (.ldxZpy 0xF0) (start.setY 0x20) (fun t => (t.cpu.addrAbs, t.cpu.cycles)) = some (0x0010, 4) := by decide

/-- 95_test_vectors.md V1.3 and V1.4. -/
theorem test_abx_page_cross :
    after (.ldaAbx 0x12F0) (start.setX 0x0F) (fun t => (t.cpu.addrAbs, t.cpu.cycles)) = some (0x12FF, 4) ∧
    after (.ldaAbx 0x12F0) (start.setX 0x20) (fun t => (t.cpu.addrAbs, t.cpu.cycles)) = some (0x1310, 5) := by decide

/-- 95_test_vectors.md V1.5. -/
theorem test_store_never_pays :
    after (.staAbx 0x12F0) (start.setX 0x20) (fun t => (t.cpu.addrAbs, t.cpu.cycles)) = some (0x1310, 5) := by decide

/-- 95_test_vectors.md V1.6. -/
theorem test_rmw_never_pays :
    after (.incAbx 0x12F0) (start.setX 0x20) (fun t => (t.cpu.addrAbs, t.cpu.cycles)) = some (0x1310, 7) := by decide

/-- 95_test_vectors.md V1.7. -/
theorem test_abx_wraps :
    after (.ldaAbx 0xFFFF) (start.setX 1) (fun t => (t.cpu.addrAbs, t.cpu.cycles)) = some (0x0000, 5) := by decide

/-- 95_test_vectors.md V1.8. -/
theorem test_izx_pointer_wraps :
    after (.ldaIzx 0xFF) (withRam [(0, 3)] start) (fun t => (t.cpu.addrAbs, t.cpu.cycles)) = some (0x0300, 6) := by decide

/-- 95_test_vectors.md V1.9. -/
theorem test_izx_indexed_pointer :
    after (.ldaIzx 0x80) (withRam [(0, 0x12), (0xFF, 0x34)] (start.setX 0x7F)) (fun t => (t.cpu.addrAbs, t.cpu.cycles)) = some (0x1234, 6) := by decide

/-- 95_test_vectors.md V1.10 and V1.11. -/
theorem test_izy_page_cross :
    after (.ldaIzy 0x10) (withRam [(0x10, 0xF0), (0x11, 0x12)] (start.setY 0x20)) (fun t => (t.cpu.addrAbs, t.cpu.cycles)) = some (0x1310, 6) ∧
    after (.ldaIzy 0x10) (withRam [(0x11, 0x12)] (start.setY 0x20)) (fun t => (t.cpu.addrAbs, t.cpu.cycles)) = some (0x1220, 5) := by decide

/-- 95_test_vectors.md V1.12. -/
theorem test_izy_pointer_wraps :
    after (.ldaIzy 0xFF) (withRam [(0, 0x12), (0xFF, 0xF0)] (start.setY 0x20)) (fun t => (t.cpu.addrAbs, t.cpu.cycles)) = some (0x1310, 6) := by decide

/-- 95_test_vectors.md V1.13. -/
theorem test_izy_store_no_penalty :
    after (.staIzy 0x10) (withRam [(0x10, 0xF0), (0x11, 0x12)] (start.setY 0x20)) (fun t => (t.cpu.addrAbs, t.cpu.cycles)) = some (0x1310, 6) := by decide

/-- 95_test_vectors.md V1.14. -/
theorem test_ram_mirror :
    after (.ldaAbs 0x0800) (withRam [(0, 0x5C)] start) (fun t => (t.cpu.a, t.cpu.cycles)) = some (0x5C, 4) := by decide

/-- 95_test_vectors.md V1.15. -/
theorem test_ppu_mirror :
    after (.staAbs 0x3456) (start.setA 0x21) (fun t => (t.ppu.t, t.ppu.w)) = some (0x2100, true) := by decide

/-- 95_test_vectors.md V1.16. -/
theorem test_unmapped_reads_zero :
    after (.ldaAbs 0x4018) (start.setA 7) (fun t => (t.cpu.a, t.flag .z)) = some (0, true) := by decide

/-- 95_test_vectors.md V1.17. -/
theorem test_nop_abx_cross :
    after (.nopAbxFC 0x12F0) (start.setX 0x20) (fun t => (t.cpu.addrAbs, t.cpu.cycles)) = some (0x1310, 5) := by decide

/-- 95_test_vectors.md V1.18. -/
theorem test_lax_aby_cross :
    after (.laxAby 0x12F0) ((start.setY 0x20).setA 1) (fun t => (t.cpu.a, t.cpu.x, t.flag .z, t.cpu.cycles)) = some (0, 0, true, 5) := by decide

/-- 95_test_vectors.md V1.19. -/
theorem test_dcp_no_penalty :
    after (.dcpAbx 0x12F0) (start.setX 0x20) (fun t => t.cpu.cycles) = some 7 := by decide

/-- 95_test_vectors.md V2.1. -/
theorem test_lda_zero :
    after (.ldaImm 0) ((start.setA 1).setP 0xA4) (fun t => (t.cpu.a, t.cpu.p)) = some (0, 0x26) := by decide

/-- 95_test_vectors.md V2.2. -/
theorem test_lda_negative :
    after (.ldaImm 0x80) (start.setP 0x26) (fun t => (t.cpu.a, t.cpu.p)) = some (0x80, 0xA4) := by decide

/-- 95_test_vectors.md V2.3. -/
theorem test_ldx :
    after (.ldxImm 0xFF) start (fun t => (t.cpu.x, t.flag .n, t.flag .z)) = some (0xFF, true, false) := by decide

/-- 95_test_vectors.md V2.4. -/
theorem test_ldy :
    after (.ldyZp 0x10) (withRam [(0x10, 0x7F)] start) (fun t => (t.cpu.y, t.cpu.p, t.cpu.cycles)) = some (0x7F, 0x24, 3) := by decide

/-- 95_test_vectors.md V2.5. -/
theorem test_sta :
    after (.staZp 0x10) (withRam [(0x10, 1)] start) (fun t => (t.ram, t.cpu.p)) = some ([], 0x24) := by decide

/-- 95_test_vectors.md V2.6. -/
theorem test_stx :
    after (.stxZpy 0xFF) ((start.setX 5).setY 2) (fun t => t.ram) = some ([(1, 5)]) := by decide

/-- 95_test_vectors.md V2.7. -/
theorem test_sty :
    after (.styAbs 0x0300) (start.setY 0xAA) (fun t => (t.ram, t.cpu.cycles)) = some ([(0x300, 0xAA)], 4) := by decide

/-- 95_test_vectors.md V2.8. -/
theorem test_tax :
    after (.tax) (start.setA 0x80) (fun t => (t.cpu.x, t.flag .n)) = some (0x80, true) := by decide

/-- 95_test_vectors.md V2.9. -/
theorem test_txs :
    after (.txs) start (fun t => (t.cpu.sp, t.cpu.p)) = some (0, 0x24) := by decide

/-- 95_test_vectors.md V2.10. -/
theorem test_tsx :
    after (.tsx) start (fun t => (t.cpu.x, t.flag .n, t.flag .z)) = some (0xFD, true, false) := by decide

/-- 95_test_vectors.md V2.11. -/
theorem test_tya :
    after (.tya) (start.setA 1) (fun t => (t.cpu.a, t.flag .z)) = some (0, true) := by decide

/-- R218. -/
theorem test_tay :
    after (.tay) (start.setA 0x80) (fun t => (t.cpu.y, t.cpu.p)) = some (0x80, 0xA4) := by decide

/-- R219. -/
theorem test_txa :
    after (.txa) ((start.setX 0x80).setA 1) (fun t => (t.cpu.a, t.cpu.p)) = some (0x80, 0xA4) := by decide

/-- 95_test_vectors.md V3.1. -/
theorem test_pha :
    after (.pha) (start.setA 0x12) (fun t => (t.ram, t.cpu.sp, t.cpu.cycles)) = some ([(0x1FD, 0x12)], 0xFC, 3) := by decide

/-- 95_test_vectors.md V3.2. -/
theorem test_pha_wraps :
    after (.pha) ((start.setA 0x34).setSp 0) (fun t => (t.ram, t.cpu.sp)) = some ([(0x100, 0x34)], 0xFF) := by decide

/-- 95_test_vectors.md V3.3. -/
theorem test_pla_wraps :
    after (.pla) ((start.setA 1).setSp 0xFF) (fun t => (t.cpu.a, t.flag .z, t.cpu.sp, t.cpu.cycles)) = some (0, true, 0, 4) := by decide

/-- 95_test_vectors.md V3.4. -/
theorem test_php :
    after (.php) start (fun t => (t.ram, t.cpu.p)) = some ([(0x1FD, 0x34)], 0x24) := by decide

/-- 95_test_vectors.md V3.5. -/
theorem test_php_all_flags :
    after (.php) (start.setP 0xE7) (fun t => t.ram) = some ([(0x1FD, 0xF7)]) := by decide

/-- 95_test_vectors.md V3.6. -/
theorem test_plp_drops_b :
    after (.plp) (withRam [(0x1FE, 0xFF)] start) (fun t => t.cpu.p) = some 0xEF := by decide

/-- 95_test_vectors.md V3.7. -/
theorem test_plp_forces_u :
    after (.plp) start (fun t => t.cpu.p) = some 0x20 := by decide

/-- 95_test_vectors.md V4.1. -/
theorem test_adc_1 :
    after (.adcImm 0x50) ((start.setA 0x50).setP 0x24) (fun t => (t.cpu.a, t.cpu.p)) = some (0xA0, 0xE4) := by decide

/-- 95_test_vectors.md V4.8. -/
theorem test_adc_8 :
    after (.adcImm 0xFF) ((start.setA 0xFF).setP 0x25) (fun t => (t.cpu.a, t.cpu.p)) = some (0xFF, 0xA5) := by decide

/-- 95_test_vectors.md V4.10. -/
theorem test_sbc_10 :
    after (.sbcImm 0x7F) ((start.setA 0x80).setP 0x25) (fun t => (t.cpu.a, t.cpu.p)) = some (0x01, 0x65) := by decide

/-- 95_test_vectors.md V4.14. -/
theorem test_sbc_14 :
    after (.sbcImm 0x80) ((start.setA 0x00).setP 0x25) (fun t => (t.cpu.a, t.cpu.p)) = some (0x80, 0xE4) := by decide

/-- 95_test_vectors.md V4, decimal mode (R251). -/
theorem test_decimal_is_absent :
    after (.adcZp 0x10) (withRam [(0x10, 1)] ((start.setA 9).setP 0x2C)) (fun t => (t.cpu.a, t.cpu.p)) = some (0x0A, 0x2C) := by decide

/-- 95_test_vectors.md V4.12, V4 decimal mode. -/
theorem test_sbc_absent_decimal :
    after (.sbcZp 0x10) (withRam [(0x10, 0xFF)] ((start.setA 0xFF).setP 0x2D)) (fun t => (t.cpu.a, t.cpu.p)) = some (0x00, 0x2F) := by decide

/-- 95_test_vectors.md V4.17. -/
theorem test_and :
    after (.andImm 0x0F) (start.setA 0xF0) (fun t => (t.cpu.a, t.cpu.p)) = some (0, 0x26) := by decide

/-- 95_test_vectors.md V4.18. -/
theorem test_ora :
    after (.oraImm 0x80) start (fun t => (t.cpu.a, t.cpu.p)) = some (0x80, 0xA4) := by decide

/-- 95_test_vectors.md V4.19. -/
theorem test_eor :
    after (.eorImm 0xFF) (start.setA 0xFF) (fun t => (t.cpu.a, t.cpu.p)) = some (0, 0x26) := by decide

/-- 95_test_vectors.md V4.20. -/
theorem test_bit_20 :
    after (.bitZp 0x10) (withRam [(0x10, 0x3F)] (start.setA 0xFF)) (fun t => (t.cpu.a, t.cpu.p)) = some (0xFF, 0x24) := by decide

/-- 95_test_vectors.md V4.21. -/
theorem test_bit_21 :
    after (.bitZp 0x10) (withRam [(0x10, 0xC0)] (start.setA 1)) (fun t => t.cpu.p) = some 0xE6 := by decide

/-- 95_test_vectors.md V4.22. -/
theorem test_cmp_22 :
    after (.cmpImm 0x41) (start.setA 0x40) (fun t => (t.cpu.a, t.cpu.p)) = some (0x40, 0xA4) := by decide

/-- 95_test_vectors.md V4.27. -/
theorem test_cmp_27 :
    after (.cmpImm 1) (start.setP 0x64) (fun t => t.cpu.p) = some 0xE4 := by decide

/-- 95_test_vectors.md V4.25. -/
theorem test_cpx :
    after (.cpxImm 0xFF) start (fun t => t.cpu.p) = some 0x24 := by decide

/-- 95_test_vectors.md V4.26. -/
theorem test_cpy :
    after (.cpyImm 0x10) (start.setY 0x10) (fun t => t.cpu.p) = some 0x27 := by decide

/-- 95_test_vectors.md V4.28. -/
theorem test_inc_28 :
    after (.incZp 0x10) (withRam [(0x10, 0xFF)] start) (fun t => (t.ram, t.cpu.p, t.cpu.cycles)) = some ([], 0x26, 5) := by decide

/-- 95_test_vectors.md V4.29. -/
theorem test_dec_29 :
    after (.decZp 0x10) start (fun t => (t.ram, t.cpu.p)) = some ([(0x10, 0xFF)], 0xA4) := by decide

/-- 95_test_vectors.md V4.30. -/
theorem test_inx :
    after (.inx) (start.setX 0xFF) (fun t => (t.cpu.x, t.cpu.p)) = some (0, 0x26) := by decide

/-- 95_test_vectors.md V4.31. -/
theorem test_dey :
    after (.dey) start (fun t => (t.cpu.y, t.cpu.p)) = some (0xFF, 0xA4) := by decide

/-- 95_test_vectors.md V4.32. -/
theorem test_inc_keeps_c_v :
    after (.incZp 0x10) (withRam [(0x10, 0x7F)] (start.setP 0x65)) (fun t => (t.ram, t.cpu.p)) = some ([(0x10, 0x80)], 0xE5) := by decide

/-- R266, R267. -/
theorem test_dex :
    after (.dex) start (fun t => (t.cpu.x, t.cpu.p)) = some (0xFF, 0xA4) := by decide

/-- R266. -/
theorem test_iny :
    after (.iny) (start.setY 0xFF) (fun t => (t.cpu.y, t.cpu.p)) = some (0, 0x26) := by decide

/-- 95_test_vectors.md V5.1. -/
theorem test_asl_1 :
    after (.aslAcc) (start.setA 0x80) (fun t => (t.cpu.a, t.cpu.p)) = some (0, 0x27) := by decide

/-- 95_test_vectors.md V5.2. -/
theorem test_asl_2 :
    after (.aslAcc) (start.setA 0x41) (fun t => (t.cpu.a, t.cpu.p)) = some (0x82, 0xA4) := by decide

/-- 95_test_vectors.md V5.3. -/
theorem test_lsr_3 :
    after (.lsrAcc) (start.setA 1) (fun t => (t.cpu.a, t.cpu.p)) = some (0, 0x27) := by decide

/-- 95_test_vectors.md V5.4. -/
theorem test_lsr_4 :
    after (.lsrZp 0x10) (withRam [(0x10, 0xFF)] start) (fun t => (t.ram, t.cpu.p, t.cpu.cycles)) = some ([(0x10, 0x7F)], 0x25, 5) := by decide

/-- 95_test_vectors.md V5.5. -/
theorem test_rol_5 :
    after (.rolAcc) (start.setA 0x80) (fun t => (t.cpu.a, t.cpu.p)) = some (0, 0x27) := by decide

/-- 95_test_vectors.md V5.6. -/
theorem test_rol_6 :
    after (.rolAcc) ((start.setA 0x40).setP 0x25) (fun t => (t.cpu.a, t.cpu.p)) = some (0x81, 0xA4) := by decide

/-- 95_test_vectors.md V5.8. -/
theorem test_ror_8 :
    after (.rorAcc) (start.setP 0x25) (fun t => (t.cpu.a, t.cpu.p)) = some (0x80, 0xA4) := by decide

/-- 95_test_vectors.md V5.9. -/
theorem test_ror_9 :
    after (.rorZpx 0x10) (withRam [(0, 2)] ((start.setX 0xF0).setP 0x25)) (fun t => (t.ram, t.cpu.p, t.cpu.cycles)) = some ([(0, 0x81)], 0xA4, 6) := by decide

/-- 95_test_vectors.md V6.1. -/
theorem test_jmp :
    after (.jmpAbs 0xC000) start (fun t => (t.cpu.pc, t.cpu.cycles)) = some (0xC000, 3) := by decide

/-- 95_test_vectors.md V6.2. -/
theorem test_jmp_ind :
    after (.jmpInd 0x0120) (withRam [(0x121, 0x80)] start) (fun t => (t.cpu.pc, t.cpu.cycles)) = some (0x8000, 5) := by decide

/-- 95_test_vectors.md V6.3, with pages 2 and 3 (W8). -/
theorem test_jmp_ind_page_bug :
    after (.jmpInd 0x02FF) (withRam [(0x200, 0x90), (0x300, 0x80)] start) (fun t => t.cpu.pc) = some 0x9000 := by decide

/-- 95_test_vectors.md V6.4. -/
theorem test_jsr :
    after (.jsr 0x9000) (start.setPc 0x8003) (fun t => (t.ram, t.cpu.sp, t.cpu.pc, t.cpu.cycles)) = some ([(0x1FC, 0x02), (0x1FD, 0x80)], 0xFB, 0x9000, 6) := by decide

/-- 95_test_vectors.md V6.5. -/
theorem test_rts :
    after (.rts) (withRam [(0x1FC, 0x02), (0x1FD, 0x80)] (start.setSp 0xFB)) (fun t => (t.cpu.sp, t.cpu.pc, t.cpu.cycles)) = some (0xFD, 0x8003, 6) := by decide

/-- 95_test_vectors.md V6.6. -/
theorem test_rti_6 :
    after (.rti) (withRam [(0x1FB, 0xA3), (0x1FD, 0xC0)] (start.setSp 0xFA)) (fun t => (t.cpu.p, t.cpu.pc, t.cpu.sp, t.cpu.cycles)) = some (0xA3, 0xC000, 0xFD, 6) := by decide

/-- 95_test_vectors.md V6.7. -/
theorem test_rti_7 :
    after (.rti) (withRam [(0x1FB, 0x10), (0x1FC, 0x34), (0x1FD, 0x12)] (start.setSp 0xFA)) (fun t => (t.cpu.p, t.cpu.pc)) = some (0x20, 0x1234) := by decide

/-- 95_test_vectors.md V6.8. -/
theorem test_brk_8 :
    after (.brk) (withVectors (start.setPc 0x8001)) (fun t => (t.ram, t.cpu.sp, t.cpu.p, t.cpu.pc, t.cpu.cycles)) = some ([(0x1FB, 0x34), (0x1FC, 0x02), (0x1FD, 0x80)], 0xFA, 0x24, 0x9200, 7) := by decide

/-- 95_test_vectors.md V6.9. -/
theorem test_brk_9 :
    after (.brk) (withVectors ((start.setPc 0x8001).setP 0x20)) (fun t => (t.ram.read 0x1FB, t.cpu.p)) = some (0x30, 0x24) := by decide

/-- 95_test_vectors.md V6.10. -/
theorem test_bne_spin :
    after (.bne 0xFE) start (fun t => (t.cpu.pc, t.cpu.cycles)) = some (0x8000, 3) := by decide

/-- 95_test_vectors.md V6.11. -/
theorem test_bne_page :
    after (.bne 1) (start.setPc 0x80FF) (fun t => (t.cpu.pc, t.cpu.cycles)) = some (0x8100, 4) := by decide

/-- 95_test_vectors.md V6.13. -/
theorem test_bcc :
    after (.bcc 0x10) (start.setPc 0x80F2) (fun t => (t.cpu.pc, t.cpu.cycles)) = some (0x8102, 4) := by decide

/-- 95_test_vectors.md V6.14. -/
theorem test_bmi :
    after (.bmi 0x80) (start.setP 0xA4) (fun t => (t.cpu.pc, t.cpu.cycles)) = some (0x7F82, 4) := by decide

/-- 95_test_vectors.md V6.15. -/
theorem test_bpl :
    after (.bpl 0x7F) start (fun t => (t.cpu.pc, t.cpu.cycles)) = some (0x8081, 3) := by decide

/-- 95_test_vectors.md V6.16. -/
theorem test_beq_wraps :
    after (.beq 0x10) ((start.setPc 0xFFFA).setP 0x26) (fun t => (t.cpu.pc, t.cpu.cycles)) = some (0x000A, 4) := by decide

/-- 95_test_vectors.md V6.17. -/
theorem test_bvs :
    after (.bvs 2) ((start.setPc 0x80FE).setP 0x64) (fun t => (t.cpu.pc, t.cpu.cycles)) = some (0x8100, 4) := by decide

/-- 95_test_vectors.md V6.18. -/
theorem test_bcs_not_taken :
    after (.bcs 0x10) start (fun t => (t.cpu.pc, t.cpu.cycles)) = some (0x8002, 2) := by decide

/-- 95_test_vectors.md V6.18. -/
theorem test_bvc_not_taken :
    after (.bvc 0x10) (start.setP 0x64) (fun t => (t.cpu.pc, t.cpu.cycles)) = some (0x8002, 2) := by decide

/-- 95_test_vectors.md V7.1. -/
theorem test_clc :
    after (.clc) (start.setP 0x25) (fun t => (t.cpu.p, t.cpu.cycles)) = some (0x24, 2) := by decide

/-- 95_test_vectors.md V7.2. -/
theorem test_sec :
    after (.sec) (start.setP 0x24) (fun t => (t.cpu.p, t.cpu.cycles)) = some (0x25, 2) := by decide

/-- 95_test_vectors.md V7.3. -/
theorem test_cli :
    after (.cli) (start.setP 0x24) (fun t => (t.cpu.p, t.cpu.cycles)) = some (0x20, 2) := by decide

/-- 95_test_vectors.md V7.4. -/
theorem test_sei :
    after (.sei) (start.setP 0x20) (fun t => (t.cpu.p, t.cpu.cycles)) = some (0x24, 2) := by decide

/-- 95_test_vectors.md V7.5. -/
theorem test_clv :
    after (.clv) (start.setP 0x64) (fun t => (t.cpu.p, t.cpu.cycles)) = some (0x24, 2) := by decide

/-- 95_test_vectors.md V7.6. -/
theorem test_sed :
    after (.sed) (start.setP 0x24) (fun t => (t.cpu.p, t.cpu.cycles)) = some (0x2C, 2) := by decide

/-- 95_test_vectors.md V7.7. -/
theorem test_cld :
    after (.cld) (start.setP 0x2C) (fun t => (t.cpu.p, t.cpu.cycles)) = some (0x24, 2) := by decide

/-- 95_test_vectors.md V7.8. -/
theorem test_nop :
    after (.nop) (start.setP 0xEF) (fun t => (t.cpu.p, t.cpu.a, t.cpu.cycles)) = some (0xEF, 0, 2) := by decide

/-- 95_test_vectors.md V8.1. -/
theorem test_lax_1 :
    after (.laxZp 0x10) (withRam [(0x10, 0x80)] start) (fun t => (t.cpu.a, t.cpu.x, t.cpu.p, t.cpu.cycles)) = some (0x80, 0x80, 0xA4, 3) := by decide

/-- 95_test_vectors.md V8.3. -/
theorem test_sax_3 :
    after (.saxZp 0x10) ((start.setA 0xF0).setX 0x3C) (fun t => (t.ram, t.cpu.p)) = some ([(0x10, 0x30)], 0x24) := by decide

/-- 95_test_vectors.md V8.5. -/
theorem test_sax_5 :
    after (.saxZpy 0xF0) (((start.setA 0xFF).setX 0x81).setY 0x20) (fun t => t.ram) = some ([(0x10, 0x81)]) := by decide

/-- 95_test_vectors.md V8.6. -/
theorem test_dcp_6 :
    after (.dcpZp 0x10) (withRam [(0x10, 0x41)] (start.setA 0x40)) (fun t => (t.ram, t.cpu.p, t.cpu.cycles)) = some ([(0x10, 0x40)], 0x27, 5) := by decide

/-- 95_test_vectors.md V8.8. -/
theorem test_isc_8 :
    after (.iscZp 0x10) (withRam [(0x10, 4)] ((start.setA 0x10).setP 0x25)) (fun t => (t.ram, t.cpu.a, t.flag .c)) = some ([(0x10, 5)], 0x0B, true) := by decide

/-- 95_test_vectors.md V8.9. -/
theorem test_isc_9 :
    after (.iscZp 0x10) (withRam [(0x10, 0xFF)] (start.setP 0x25)) (fun t => (t.ram, t.cpu.a, t.cpu.p)) = some ([], 0, 0x27) := by decide

/-- 95_test_vectors.md V8.11. -/
theorem test_slo_11 :
    after (.sloZp 0x10) (withRam [(0x10, 0x40)] (start.setA 1)) (fun t => (t.ram, t.cpu.a, t.cpu.p)) = some ([(0x10, 0x80)], 0x81, 0xA4) := by decide

/-- 95_test_vectors.md V8.12. -/
theorem test_slo_12 :
    after (.sloZp 0x10) (withRam [(0x10, 0x80)] start) (fun t => (t.ram, t.cpu.a, t.cpu.p)) = some ([], 0, 0x27) := by decide

/-- 95_test_vectors.md V8.13. -/
theorem test_rla_13 :
    after (.rlaZp 0x10) (withRam [(0x10, 0x80)] ((start.setA 0xFF).setP 0x25)) (fun t => (t.ram, t.cpu.a, t.flag .c)) = some ([(0x10, 1)], 1, true) := by decide

/-- 95_test_vectors.md V8.14. -/
theorem test_sre_14 :
    after (.sreZp 0x10) (withRam [(0x10, 3)] (start.setA 0xFF)) (fun t => (t.ram, t.cpu.a, t.cpu.p)) = some ([(0x10, 1)], 0xFE, 0xA5) := by decide

/-- 95_test_vectors.md V8.15. -/
theorem test_rra_15 :
    after (.rraZp 0x10) (withRam [(0x10, 3)] (start.setA 0x10)) (fun t => (t.ram, t.cpu.a, t.flag .c)) = some ([(0x10, 1)], 0x12, false) := by decide

/-- 95_test_vectors.md V8.16. -/
theorem test_rra_16 :
    after (.rraZp 0x10) (withRam [(0x10, 1)] (start.setA 0x7F)) (fun t => (t.ram, t.cpu.a, t.cpu.p)) = some ([], 0x80, 0xE4) := by decide

/-- 95_test_vectors.md V8.17. -/
theorem test_anc_17 :
    after (.ancImm2B 0x80) (start.setA 0xFF) (fun t => (t.cpu.a, t.cpu.p)) = some (0x80, 0xA5) := by decide

/-- 95_test_vectors.md V8.18. -/
theorem test_anc_18 :
    after (.ancImm0B 0x7F) ((start.setA 0xFF).setP 0x25) (fun t => (t.cpu.a, t.cpu.p)) = some (0x7F, 0x24) := by decide

/-- 95_test_vectors.md V8.19. -/
theorem test_alr_19 :
    after (.alr 3) (start.setA 0xFF) (fun t => (t.cpu.a, t.flag .c)) = some (1, true) := by decide

/-- 95_test_vectors.md V8.20. -/
theorem test_alr_20 :
    after (.alr 1) (start.setA 0xFF) (fun t => (t.cpu.a, t.cpu.p)) = some (0, 0x27) := by decide

/-- 95_test_vectors.md V8.22. -/
theorem test_arr_22 :
    after (.arr 0x80) (start.setA 0xFF) (fun t => (t.cpu.a, t.cpu.p)) = some (0x40, 0x65) := by decide

/-- 95_test_vectors.md V8.23. -/
theorem test_arr_23 :
    after (.arr 0x40) ((start.setA 0xFF).setP 0x25) (fun t => (t.cpu.a, t.cpu.p)) = some (0xA0, 0xE4) := by decide

/-- 95_test_vectors.md V8.27. -/
theorem test_nop_imm :
    after (.nopImm89 0) start (fun t => (t.cpu.a, t.cpu.p, t.cpu.cycles)) = some (0, 0x24, 2) := by decide

/-- 95_test_vectors.md V8.30. -/
theorem test_nop_reads_device :
    after (.nopAbs 0x2002) (withVblank start) (fun t => (t.ppu.vblank, t.ppu.w, t.cpu.cycles)) = some (false, false, 4) := by decide

/-- 95_test_vectors.md V8.31. -/
theorem test_xaa :
    after (.xaa 0) ((start.setA 0xFF).setX 0xFF) (fun t => (t.cpu.a, t.cpu.x, t.cpu.cycles)) = some (0xFF, 0xFF, 2) := by decide

/-- 95_test_vectors.md V8.32. -/
theorem test_lxa :
    after (.lxa 0xFF) start (fun t => (t.cpu.a, t.cpu.x)) = some (0, 0) := by decide

/-- 95_test_vectors.md V8.33. -/
theorem test_jam :
    after (.jam02) (start.setA 1) (fun t => (t.cpu.a, t.cpu.pc, t.cpu.p, t.cpu.cycles)) = some (1, 0x8002, 0x24, 2) := by decide

/-! ## Interrupts (95_test_vectors.md V9) -/

/-- V9.1: IRQ entry at a boundary. -/
theorem test_irq_entry :
    part (cpuClock (withVectors (((start.setPc 0x8123).setP 0x20).setIrqPending true)))
      (fun t => (t.ram, t.cpu.p, t.cpu.sp, t.cpu.pc, t.cpu.cycles)) =
      some ([(0x1FB, 0x20), (0x1FC, 0x23), (0x1FD, 0x81)], 0x24, 0xFA, 0x9200, 6) := by decide

/-- V9.2: I = 1 masks an IRQ; the opcode at PC, here a 0 byte, runs. -/
theorem test_irq_masked :
    part (cpuClock (withVectors ((start.setPc 0x8123).setIrqPending true)))
      (fun t => (t.cpu.opcode, t.ram)) =
      some (0, [(0x1FB, 0x34), (0x1FC, 0x25), (0x1FD, 0x81)]) := by decide

/-- V9.4: NMI first, whatever I is; the IRQ stays pending. -/
theorem test_nmi_first :
    part (cpuClock (withVectors (((start.setP 0xA1).setIrqPending true).setNmiPending true)))
      (fun t => (t.cpu.pc, t.cpu.p, t.ram.read 0x1FB, t.cpu.nmiPending, t.cpu.irqPending)) =
      some (0x9100, 0xA5, 0xA1, false, true) := by decide

/-- V9.12: an entry with SP = $01 wraps in page 1. -/
theorem test_entry_wraps :
    part (cpuClock (withVectors ((((start.setPc 0x8123).setP 0x20).setSp 1).setIrqPending true)))
      (fun t => (t.ram, t.cpu.sp)) = some ([(0x100, 0x23), (0x101, 0x81), (0x1FF, 0x20)], 0xFE) := by decide

/-- V9.17 and R800: a reset drops a pending NMI and reads the reset vector. -/
theorem test_reset_drops_nmi :
    ((withVectors (start.setNmiPending true)).hostReset.cpu.nmiPending,
      (withVectors start).hostReset.cpu.pc, (withVectors start).hostReset.cpu.cycles) = (false, 0x8000, 7) := by decide

/-! ## Steps from reset -/

/-- Power-on with empty memories and no cartridge is the state after reset (R801, R804). -/
theorem test_power_on :
    State.reset.powerOn
      { ram := [], vram := [], palette := [], oam := [], prgRam := [], chrRam := [] } = State.reset := by decide

/-- A placed instruction is fetched and run by the next step: LDA #0 (R211) ends with 2 cycles less this clock. -/
theorem test_step_lda :
    part (step (State.reset.withFetchWord 8 0xA9)) (fun t => (t.cpu.opcode, t.cpu.cycles, t.cpu.p, t.dotCount)) =
      some (0xA9, 1, 0x26, 1) := by decide

/-- A placed instruction with operand bytes: JMP $C000 (R300). -/
theorem test_step_jmp :
    part (step (State.reset.withFetchWord 24 0xC0004C)) (fun t => (t.cpu.pc, t.cpu.cycles)) =
      some (0xC000, 2) := by decide

/-- The table's bit numbering: the first byte is the least significant. -/
theorem test_table_word : decodeTableWord 24 0x12344C = some (.jmpAbs 0x1234) := rfl

/-- Only every third tick has a CPU clock (R451). -/
theorem test_tick_without_clock :
    part (step (countDot State.reset)) (fun t => (t.cpu.cycles, t.cpu.totalCycles, t.ppu.dot)) =
      some (7, 0, 1) := by decide

/-! ## Controllers and OAM DMA (95_test_vectors.md W2, W8) -/

/-- W2: the latched buttons, here $55, shift out in order, then 1. -/
theorem test_controller_sequence :
    let s := memWrite 0x4016 0 (memWrite 0x4016 1 (State.reset.setController false 0x55))
    ((List.range 10).foldl (fun (acc : State × List Byte) _ =>
      ((memRead 0x4016 acc.1).1, acc.2 ++ [(memRead 0x4016 acc.1).2])) (s, [])).2 =
      [1, 0, 1, 0, 1, 0, 1, 0, 1, 1] := by decide

/-- R477: new buttons of port 1 reach $4017 after a strobe. -/
theorem test_controller_port1 :
    (memRead 0x4017 (memWrite 0x4016 1 (State.reset.setController true 0x01))).2 = 1 := by decide

set_option maxRecDepth 10000 in
/-- W8: STA $4014 copies a page from OAMADDR on and takes 4 + 513 cycles, 4 + 514 when `total_cycles` is odd. -/
theorem test_oam_dma :
    after (.staAbs 0x4014) (memWrite 0x2003 0xFF (withRam [(0x200, 7), (0x2FF, 9)] (start.setA 2)))
      (fun t => (t.ppu.oam, t.cpu.cycles, t.ppu.oamaddr)) = some ([(0xFE, 9), (0xFF, 7)], 517, 0xFF) ∧
    after (.staAbs 0x4014) (countClock (start.setA 2)) (fun t => t.cpu.cycles) = some 518 := by decide

/-! ## PPU (95_test_vectors.md V10) -/

/-- V10.1 to V10.9. -/
theorem test_nametables :
    [ntIndex .horizontal 0x2400, ntIndex .horizontal 0x2800, ntIndex .horizontal 0x2C05, ntIndex .vertical 0x2400,
      ntIndex .vertical 0x2800, ntIndex .oneScreenLower 0x2FFF, ntIndex .oneScreenUpper 0x2000,
      ntIndex .fourScreen 0x2C00, ntIndex .vertical 0x3000] =
      [0x000, 0x400, 0x405, 0x400, 0x000, 0x3FF, 0x400, 0xC00, 0x000] := by decide

/-- V10.10 to V10.12. -/
theorem test_palette_mirrors :
    [palIndex 0x3F10, palIndex 0x3F14, palIndex 0x3F18, palIndex 0x3F1C, palIndex 0x3F11, palIndex 0x3F20,
      palIndex 0x3F3C] = [0x00, 0x04, 0x08, 0x0C, 0x11, 0x00, 0x0C] := by decide

/-- V10.13. -/
theorem test_status_read :
    let s := State.reset.mapPpu fun p => { p with vblank := true, sprite0Hit := true, dataBuffer := 0x3F, w := true }
    let r := memRead 0x2002 s
    (r.2, r.1.ppu.vblank, r.1.ppu.w, r.1.ppu.sprite0Hit) = (0xDF, false, false, true) := by decide

/-- V10.14 and V10.15. -/
theorem test_scroll_writes :
    let s := memWrite 0x2005 0x5E (memWrite 0x2005 0x7D State.reset)
    ((memWrite 0x2000 3 State.reset).ppu.t, s.ppu.x, s.ppu.t, s.ppu.w) = (0x0C00, 5, 0x616F, false) := by decide

/-- V10.16. -/
theorem test_address_writes :
    let s := memWrite 0x2006 0 (memWrite 0x2006 0xFF State.reset)
    (s.ppu.t, s.ppu.v) = (0x3F00, 0x3F00) := by decide

/-- V10.17 and V10.20: a data write, and two buffered reads. -/
theorem test_data_port :
    let w := fun s => memWrite 0x2006 0x08 (memWrite 0x2006 0x21 s)
    let s := memWrite 0x2007 0x5A (w State.reset)
    let r := memRead 0x2007 (w s)
    (s.ppu.vram, s.ppu.v, r.2, (memRead 0x2007 r.1).2) = ([(0x108, 0x5A)], 0x2109, 0, 0x5A) := by decide

/-- V10.21 and V10.19: a palette read is immediate, and v wraps modulo 2^15. -/
theorem test_palette_read :
    let s := State.reset.mapPpu fun p => { p with v := 0x3F00, palette := [(0, 0x12)], vram := [(0x700, 0x77)] }
    let r := memRead 0x2007 s
    let q := memRead 0x2007 (State.reset.mapPpu fun p => { p with v := 0x7FFF })
    (r.2, r.1.ppu.dataBuffer, r.1.ppu.v, q.1.ppu.v) = (0x12, 0x77, 0x3F01, 0) := by decide

/-- V10.24 to V10.26: enabling NMI during vblank raises it once. -/
theorem test_late_nmi_enable :
    let s := State.reset.mapPpu fun p => { p with vblank := true }
    let t := memWrite 0x2000 0x80 s
    (t.ppu.nmiOut, (memWrite 0x2000 0x80 (t.mapPpu fun p => { p with nmiOut := false })).ppu.nmiOut,
      (memWrite 0x2000 0x80 State.reset).ppu.nmiOut) = (true, false, false) := by decide

/-- V10.27. -/
theorem test_oam_port :
    let s := memWrite 0x2004 0x22 (memWrite 0x2004 0x11 (memWrite 0x2003 0xFE State.reset))
    (s.ppu.oam, s.ppu.oamaddr) = ([(0xFE, 0x11), (0xFF, 0x22)], 0) := by decide

/-- V10.28 to V10.35. -/
theorem test_scroll_steps :
    [incX 0x0005, incX 0x001F, incX 0x041F, incY 0x1000, incY 0x70A0, incY 0x73A0, incY 0x73E0, copyX 0x7BFF 0] =
      [0x0006, 0x0400, 0x0000, 0x2000, 0x00C0, 0x0800, 0x0000, 0x7BE0] := by decide

/-- V10.36, V10.38 and V10.40: the sprite-zero hit. -/
theorem test_zero_hit :
    let z : SpriteDot := { pixel := 1, palette := 4, behind := true, isZero := true }
    [zeroHit 10 1 z, zeroHit 255 1 z, zeroHit 10 0 z] = [true, false, false] := by decide

/-- R551: `Reverse8`, and the rows of an 8 x 16 sprite (R552). -/
theorem test_sprite_addresses :
    (reverse8 0x01, reverse8 0xB0, spritePatternAddr 0x20 16 0x03 9, spritePatternAddr 0x08 8 0x02 3) =
      (0x80, 0x0D, 0x1031, 0x1023) := by decide

/-- R502: the last dot of a frame, and the dot that an odd frame skips with rendering on. -/
theorem test_frame_end :
    let p := { State.reset.ppu with scanline := 260, dot := 340 }
    let q := { State.reset.ppu with scanline := -1, dot := 338, oddFrame := true }
    ((p.advance 340 false).scanline, (p.advance 340 false).dot, (p.advance 340 false).frameComplete,
      (p.advance 340 false).oddFrame, (q.advance 338 true).dot, (q.advance 338 false).dot) =
      (-1, 0, true, true, 340, 339) := by decide

/-! ## APU (63_apu.md R671) -/

/-- R671.3: a write of $80 to $4017 clocks the length counters at once. -/
theorem test_frame_counter_write :
    let p := { Apu.reset.pulse1 with length := 10 }
    ({ Apu.reset with pulse1 := p }.writeRegister 0x17 0x80).pulse1.length = 9 := by decide

/-- R671.4 and R671.5: an enabled channel loads LENGTH[1], a disable clears it, a disabled channel loads nothing. -/
theorem test_length_load :
    let on := (Apu.reset.writeRegister 0x15 1).writeRegister 3 8
    [on.pulse1.length, (on.writeRegister 0x15 0).pulse1.length, (Apu.reset.writeRegister 3 8).pulse1.length] =
      [254, 0, 0] := by decide

/-- R671.6: pulse 2 negates in two's complement, pulse 1 in one's complement. -/
theorem test_sweep_target :
    let p := { Pulse.reset with timerPeriod := 0x100, sweepShift := 1, sweepNegate := true }
    (p.target true, p.target false) = (0x80, 0x7F) := by decide

/-- R671.7: a target above $7FF moves nothing. -/
theorem test_sweep_overflow :
    let p := { Pulse.reset with timerPeriod := 0x600, sweepShift := 1, sweepEn := true }
    (p.target false, (p.clockSweep false).timerPeriod) = (0x900, 0x600) := by decide

/-- R671.8 and R671.9. -/
theorem test_dmc_registers :
    let a := ((Apu.reset.writeRegister 0x12 0xFF).writeRegister 0x13 0xFF).writeRegister 0x15 0x10
    ((Apu.reset.writeRegister 0x11 0xFF).dmc.level, a.dmc.curAddr, a.dmc.bytesLeft, a.status) =
      (0x7F, 0xFFC0, 4081, 0x10) := by decide

/-- R671.10 to R671.12: the reader wraps to $8000, and the last byte raises the DMC IRQ, which $4010 clears. -/
theorem test_dmc_reader :
    let c := { Dmc.reset with curAddr := 0xFFFF, bytesLeft := 1, irqEn := true }
    let a := dmcReceive 5 { Apu.reset with dmc := c }
    (a.dmc.curAddr, a.dmc.bytesLeft, a.status, (a.writeRegister 0x10 0).dmcIrq) =
      (0x8000, 0, 0x80, false) := by decide

/-- R671.13 and R671.14. -/
theorem test_outputs :
    ({ Pulse.reset with timerPeriod := 7, length := 10, constVol := true, vol := 15, duty := 3 }.output false false,
      dmcLevel true 126, dmcLevel true 125) = (0, 126, 127) := by decide

/-- R621 and R671.1: the last step of the 4-step mode raises the frame IRQ and restarts the sequence. -/
theorem test_frame_irq :
    let a := Apu.frameSequencer .one { Apu.reset with fc := 14914 }
    (a.frameIrq, a.fc, (Apu.frameSequencer .two { Apu.reset with fc := 29828 }).frameIrq,
      (Apu.frameSequencer .one { Apu.reset with fc := 14914, irqInhibit := true }).frameIrq) =
      (true, 0, true, false) := by decide

/-- W6: the half frame at fc = 7457 decrements a length counter. -/
theorem test_half_frame :
    let a := { Apu.reset with pulse1 := { Pulse.reset with length := 254 } }
    [(Apu.frameSequencer .one { a with fc := 3728 }).pulse1.length,
      (Apu.frameSequencer .one { a with fc := 7456 }).pulse1.length] = [254, 253] := by decide

/-- R671.15: Mix() with p1 = p2 = 15 is 0.2585 to four digits. -/
theorem test_mix : 25845 / 100000 < mixOf 15 15 0 0 0 ∧ mixOf 15 15 0 0 0 < 25855 / 100000 := by
  norm_num [mixOf]

/-! ## Mappers (64_cartridge_mappers.md R756) -/

/-- A cartridge whose PRG-ROM marks the first byte of some 16 KiB or 8 KiB places. -/
def cartOf (m : Mapper) (banks : Nat) (rom : Memory) : Cart :=
  { vectorCart with mapper := m, prgBanks := banks, prgRom := rom }

/-- A byte read from a cartridge after writes of (address, byte). -/
def mapped (c : Cart) (w : List (Word × Byte)) (a : Word) : Option Byte :=
  (w.foldl (fun d x => d.cpuWrite x.1 x.2) c).cpuRead a

/-- R756.1 and R756.2. -/
theorem test_nrom :
    (mapped (cartOf .nrom 1 [(0x123, 5)]) [] 0xC123, mapped (cartOf .nrom 2 [(0x4123, 6)]) [] 0xC123) =
      (some 5, some 6) := by decide

/-- R756.4 and R756.5: MMC1 PRG bank 1, then bank 15 mod 4. -/
theorem test_mmc1_banks :
    let c := cartOf (.mmc1 Mmc1.powerOn) 4 [(0x4000, 4), (0xC000, 12)]
    let w := fun l : List Byte => l.map fun b => ((0xE000, b) : Word × Byte)
    [mapped c (w [1, 0, 0, 0, 0]) 0x8000, mapped c (w [1, 0, 0, 0, 0]) 0xC000,
      mapped c (w [1, 1, 1, 1, 0]) 0x8000] = [some 4, some 12, some 12] := by decide

/-- R756.3, R756.6 and R756.7: the control register. -/
theorem test_mmc1_control :
    let w := fun (m : Mmc1) (l : List Byte) => l.foldl (fun n b => n.write 0x8000 b) m
    ((w Mmc1.powerOn [0x80]).control, (w Mmc1.powerOn [0, 1, 0, 0, 0]).control,
      (w Mmc1.powerOn [0, 1, 0, 0, 0]).mirroringMode, (w Mmc1.powerOn [1, 1, 1, 0x80, 0, 1, 0, 0, 0]).control) =
      (0x0C, 2, .vertical, 2) := by decide

/-- R756.8: MMC1 disables PRG-RAM. -/
theorem test_mmc1_ram :
    let c := { cartOf (.mmc1 { Mmc1.powerOn with prg := 0x10 }) 4 [] with prgRam := [(0, 9)] }
    (c.cpuRead 0x6000, c.cpuWrite 0x6000 1) = (some 0, c) := by decide

/-- R756.9: UxROM. -/
theorem test_uxrom :
    let c := cartOf (.uxrom 0) 8 [(0x4000, 4), (0x1C000, 28)]
    (mapped c [(0x8000, 9)] 0x8000, mapped c [(0x8000, 9)] 0xC000) = (some 4, some 28) := by decide

/-- R756.10: CNROM. -/
theorem test_cnrom :
    ({ cartOf (.cnrom 0) 1 [] with chrBanks := 4, chr := [(0x2010, 3)] }.cpuWrite 0x8000 5).ppuRead 0x0010 = 3 := by
  decide

/-- R756.11 and R756.12: MMC3 PRG banks in both modes. -/
theorem test_mmc3_banks :
    let c := cartOf (.mmc3 Mmc3.powerOn) 16 [(0xA000, 10), (0x3C000, 60)]
    let w : List (Word × Byte) := [(0x8000, 6), (0x8001, 5)]
    let v : List (Word × Byte) := w ++ [(0x8000, 0x46)]
    [mapped c w 0x8000, mapped c w 0xC000, mapped c v 0x8000, mapped c v 0xC000] =
      [some 10, some 60, some 60, some 10] := by decide

/-- R756.13 and R756.14: three qualifying edges count 2, 1, 0 and raise the IRQ; $E000 acknowledges it. -/
theorem test_mmc3_irq :
    let m := ((Mmc3.powerOn.write 0xC000 2).write 0xC001 0).write 0xE001 0
    let edge := fun n : Mmc3 => ({ n with a12Last := false, a12Low := 8 }).observe 8 0x1000
    ([(edge m).irqPending, (edge (edge m)).irqPending, (edge (edge (edge m))).irqPending],
      ((edge (edge (edge m))).write 0xE000 0).irqPending) = ([false, false, true], false) := by decide

/-- R756.15 and R756.16. -/
theorem test_mirroring :
    (({ vectorCart with mapper := .mmc3 Mmc3.powerOn }.cpuWrite 0xA000 1).mirroring,
      { vectorCart with header := .fourScreen, mapper := .mmc1 Mmc1.powerOn }.mirroring) =
      (.horizontal, .fourScreen) := by decide

/-! ## WellFormed: an ill-formed image for each check -/

/-- An image with the given sizes. -/
def image (prg chr id : Nat) : CartImage :=
  { prgRom := List.replicate prg 0, chrRom := List.replicate chr 0, mapperId := id, mirroring := .horizontal }

/-- Mapper 5 is not supported (R755). -/
theorem test_refuses_mapper : (image 0 0 5).mapperSupported = false ∧ (image 0 0 5).wf = false := by decide

/-- A PRG-ROM of no byte, and of one byte, has no legal size (D55). -/
theorem test_refuses_prg_size :
    (image 0 0 0).prgSizeOk = false ∧ (image 1 0 0).prgSizeOk = false ∧ (image 1 0 0).wf = false := by decide

/-- A CHR-ROM of one byte has no legal size (D55). -/
theorem test_refuses_chr_size : (image 0 1 0).chrSizeOk = false ∧ (image 0 1 0).wf = false := by decide

/-- One bank of PRG-ROM and CHR-RAM are accepted (R9, D55). -/
theorem test_accepts : (image 16384 0 4).wf = true := by
  unfold CartImage.wf CartImage.mapperSupported CartImage.prgSizeOk CartImage.chrSizeOk image
  simp only [List.length_replicate]
  decide

/-- The load operation refuses an ill-formed image by name (R755). -/
theorem test_load_refuses :
    let m : PowerOnMem := { ram := [], vram := [], palette := [], oam := [], prgRam := [], chrRam := [] }
    State.reset.loadCartridge m (image 0 0 5) = .refused (.unsupportedMapper 5) ∧
      State.reset.loadCartridge m (image 1 0 0) = .refused .cartridgeFormat := ⟨rfl, rfl⟩

/-! ## Save states and the trace -/

/-- R481, U25: a save loads back; a wrong version and a bad encoding are refused; a load keeps the parameters (R75). -/
theorem test_save_and_load :
    let s := memWrite 0x0000 5 start
    State.reset.loadState s.saveState = .next s ∧
    State.reset.loadState { s.saveState with version := Config.saveVersion + 1 } = .refused .saveStateFormat ∧
    State.reset.loadState { s.saveState with content := none } = .refused .saveStateFormat ∧
    (let u := { State.reset with config := { Config.initial with apuFrameScale := .two } }
     u.loadState s.saveState = .next { s with config := u.config }) :=
  ⟨loadState_saveState _ _ rfl, if_neg (Nat.succ_ne_self _), if_pos rfl, if_pos rfl⟩

/-- R161: the thirteen forms; a branch to itself shows its own address. -/
theorem test_disassembly :
    [disassemble 0x8000 .brk, disassemble 0x8000 .aslAcc, disassemble 0x8000 (.ldaImm 0x0A),
      disassemble 0x8000 (.ldaZp 0xFF), disassemble 0x8000 (.ldaZpx 0x10), disassemble 0x8000 (.ldxZpy 0x10),
      disassemble 0x8000 (.staAbs 0x4014), disassemble 0x8000 (.ldaAbx 0x12F0), disassemble 0x8000 (.ldaAby 0x12F0),
      disassemble 0x8000 (.jmpInd 0x02FF), disassemble 0x8000 (.ldaIzx 0x80), disassemble 0x8000 (.ldaIzy 0x80),
      disassemble 0x8000 (.bne 0xFE)] =
    ["BRK", "ASL A", "LDA #$0A", "LDA $FF", "LDA $10,X", "LDX $10,Y", "STA $4014", "LDA $12F0,X", "LDA $12F0,Y",
      "JMP ($02FF)", "LDA ($80,X)", "LDA ($80),Y", "BNE $8000"] := by decide

/-- R162 with the start values of W1 and R803, and the spacing of D17. -/
theorem test_trace_text :
    TraceLine.text
      { pc := 0xC000, instr := .jmpAbs 0xC5F5, a := 0, x := 0, y := 0, p := 0x24, sp := 0xFD, scanline := 0, dot := 21,
        cyc := 7 } =
      "C000  4C F5 C5  JMP $C5F5  A:00 X:00 Y:00 P:24 SP:FD PPU:  0, 21 CYC:7" := by decide

/-- D44: the line of a tick that fetches an opcode, none inside an instruction. -/
theorem test_trace_line :
    (let s := (State.reset.withFetchWord 16 0x42A9)
     (s.traceLine.map fun l => (l.pc, l.instr, l.sp, l.dot)) = some (0x0000, .ldaImm 0x42, 0xFD, 0)) ∧
    State.reset.traceLine = none := by decide


/-! ## Witnesses: states and operands that meet the hypotheses of each statement -/

/-- A state with a cartridge and some RAM. -/
def demo : State := { withVectors start with ram := [(0x1FE, 0x80)] }

/-- The memories of the state are canonical and within their sizes. -/
theorem demo_memories : demo.MemoriesOk := by
  refine ⟨by decide, by decide, by decide, by decide, by decide, ?_⟩
  intro c hc
  obtain rfl : vectorCart = c := Option.some.inj hc
  exact ⟨by decide, by decide, by decide, by decide, by decide⟩

/-- Device addresses at their boundaries. -/
theorem witness_device_addresses :
    ¬ DeviceAddress 0x1FFF ∧ DeviceAddress 0x2000 ∧ DeviceAddress 0x401F ∧ ¬ DeviceAddress 0x4020 := by
  unfold DeviceAddress
  decide

/-- A boundary with no interrupt pending, and one with an IRQ that I masks. -/
theorem witness_StepRunsTheDecodedInstruction :
    (let s := State.reset.withFetchWord 8 0xEA
     let s2 := clockDevices (ppuDot s)
     let r := readBytes (Instr.length .nop) s2.cpu.pc s2
     s.dotCount.toNat % 3 = 0 ∧ s2.cpu.cycles = 0 ∧ s2.cpu.nmiPending = false ∧ s2.cpu.irqPending = false ∧
       r.2 = [0xEA]) ∧
    (let s := (State.reset.mapApu fun a => { a with frameIrq := true }).withFetchWord 8 0xA9
     let s2 := clockDevices (ppuDot s)
     let r := readBytes (Instr.length (.ldaImm 0)) s2.cpu.pc s2
     s.dotCount.toNat % 3 = 0 ∧ s2.cpu.cycles = 0 ∧ s2.cpu.nmiPending = false ∧ s2.cpu.irqPending = true ∧
       s2.flag .i = true ∧ r.2 = [0xA9, 0]) ∧
    decode [0xEA] = .ok (.nop, []) ∧ decode [0xA9, 0] = .ok (.ldaImm 0, []) :=
  ⟨by decide, by decide, rfl, rfl⟩

/-- A tick without a CPU clock, and a clock inside an instruction. -/
theorem witness_TicksBetweenInstructionsChangeNoRegister :
    (countDot State.reset).dotCount.toNat % 3 ≠ 0 ∧ State.reset.dotCount.toNat % 3 = 0 ∧
      State.reset.cpu.cycles ≠ 0 := by decide

/-- Immediate, accumulator, memory and pointer modes, at device addresses and beside them. -/
theorem witness_DataReadsChangeNoRegisterAndNoByte :
    Instr.mode (.ldaImm 0) = .imm ∧ Instr.mode .aslAcc = .acc ∧ Instr.mode (.jmpInd 0x02FF) = .ind ∧
    Instr.mode (.ldaAbs 0x1FFF) = .abs ∧ Instr.address (.ldaAbs 0x1FFF) demo = 0x1FFF ∧
    Instr.address (.ldaAbs 0x2000) demo = 0x2000 ∧ Instr.address (.ldaAbs 0x401F) demo = 0x401F ∧
    Instr.address (.ldaAbs 0x4020) demo = 0x4020 := by decide

theorem witness_LoadsSetTheirRegister :
    Instr.operation (.ldaAbx 0xFFFF) = .lda ∧ Instr.operation (.ldxZpy 0xFF) = .ldx ∧
    Instr.operation (.ldyImm 0) = .ldy ∧ Instr.operation (.laxIzy 0xFF) = .lax := by decide

theorem witness_StoresWriteTheirRegister :
    Instr.operation (.staIzy 0xFF) = .sta ∧ Instr.operation (.stxZpy 0xFF) = .stx ∧
    Instr.operation (.styAbs 0x4014) = .sty ∧ Instr.operation (.saxZp 0) = .sax ∧ demo.MemoriesOk :=
  ⟨by decide, by decide, by decide, by decide, demo_memories⟩

theorem witness_RegisterInstructionsChangeOneRegister :
    Instr.operation .tax = .tax ∧ Instr.operation .tay = .tay ∧ Instr.operation .txa = .txa ∧
    Instr.operation .tya = .tya ∧ Instr.operation .tsx = .tsx ∧ Instr.operation .txs = .txs ∧
    Instr.operation .inx = .inx ∧ Instr.operation .iny = .iny ∧ Instr.operation .dex = .dex ∧
    Instr.operation .dey = .dey := by decide

theorem witness_StackInstructionsPushAndPullOneByte :
    Instr.operation .pha = .pha ∧ Instr.operation .php = .php ∧ Instr.operation .pla = .pla ∧
    Instr.operation .plp = .plp ∧ demo.MemoriesOk :=
  ⟨by decide, by decide, by decide, by decide, demo_memories⟩

theorem witness_AdcSbcAreBinaryWithCarryAndOverflow :
    Instr.operation (.adcIzx 0xFF) = .adc ∧ Instr.operation (.sbcImm 0xFF) = .sbc ∧
    (start.setP 0x2D).flag .d = true := by decide

theorem witness_LogicSetsAccumulatorAndBitTests :
    Instr.operation (.andImm 0) = .and ∧ Instr.operation (.oraAby 0xFFFF) = .ora ∧
    Instr.operation (.eorIzx 0xFF) = .eor ∧ Instr.operation (.bitZp 0xFF) = .bit ∧
    Instr.operation (.bitAbs 0x2002) = .bit := by decide

theorem witness_ComparesSetFlagsOnly :
    Instr.operation (.cmpImm 0xFF) = .cmp ∧ Instr.operation (.cpxZp 0) = .cpx ∧
    Instr.operation (.cpyAbs 0xFFFF) = .cpy := by decide

theorem witness_ReadModifyWriteInstructions :
    Instr.operation .aslAcc = .asl ∧ Instr.mode .aslAcc = .acc ∧ Instr.operation (.lsrAbs 0x2007) = .lsr ∧
    Instr.mode (.lsrAbs 0x2007) = .abs ∧ Instr.operation (.rolZp 0) = .rol ∧
    Instr.operation (.rorAbx 0xFFFF) = .ror ∧ Instr.operation (.incAbx 0xFFFF) = .inc ∧
    Instr.operation (.decZpx 0xFF) = .dec ∧ demo.MemoriesOk :=
  ⟨by decide, by decide, by decide, by decide, by decide, by decide, by decide, by decide, demo_memories⟩

theorem witness_JumpsSetPc :
    Instr.operation (.jmpAbs 0xFFFF) = .jmp ∧ Instr.operation (.jmpInd 0x02FF) = .jmp ∧
    Instr.operation (.jsr 0x9000) = .jsr ∧ demo.MemoriesOk :=
  ⟨by decide, by decide, by decide, demo_memories⟩

theorem witness_ReturnsPullPc :
    Instr.operation .rts = .rts ∧ Instr.operation .rti = .rti := by decide

theorem witness_BrkEntersTheIrqVector : Instr.operation .brk = .brk ∧ demo.MemoriesOk :=
  ⟨by decide, demo_memories⟩

theorem witness_BranchesFollowTheirFlag :
    [Instr.mode (.bcc 0x7F), Instr.mode (.bcs 0x80), Instr.mode (.bne 0xFF), Instr.mode (.beq 0),
      Instr.mode (.bpl 1), Instr.mode (.bmi 2), Instr.mode (.bvc 3), Instr.mode (.bvs 4)] =
      List.replicate 8 .rel := by decide

theorem witness_FlagInstructionsWriteOneFlag :
    [Instr.operation .clc, Instr.operation .sec, Instr.operation .cli, Instr.operation .sei, Instr.operation .clv,
      Instr.operation .cld, Instr.operation .sed] = [.clc, .sec, .cli, .sei, .clv, .cld, .sed] := by decide

theorem witness_NopsOnlyReadTheirOperand :
    [Instr.operation .nop, Instr.operation (.xaa 0), Instr.operation (.lxa 0), Instr.operation .jam02,
      Instr.operation .shy, Instr.operation .usbc] = [.nop, .xaa, .lxa, .jam, .shy, .usbc] ∧
    Instr.mode (.nopAbx1C 0xFFFF) = .abx ∧ Instr.mode .nop = .imp := by decide

theorem witness_ModifyAndCombineOpcodes :
    Instr.operation (.sloIzx 0xFF) = .slo ∧ Instr.operation (.rlaAbs 0x4014) = .rla ∧
    Instr.operation (.sreZp 0) = .sre ∧ Instr.operation (.dcpIzy 0xFF) = .dcp := by decide

theorem witness_RotateAddAndIncrementSubtractOpcodes :
    Instr.operation (.rraAby 0xFFFF) = .rra ∧ Instr.operation (.iscIzy 0) = .isc := by decide

theorem witness_ImmediateAndOpcodes :
    Instr.operation (.ancImm0B 0xFF) = .anc ∧ Instr.operation (.alr 0) = .alr ∧
    Instr.operation (.arr 0xFF) = .arr := by decide

/-- An NMI alone, an IRQ alone, and both. -/
theorem witness_InterruptEntryAtABoundary :
    demo.cpu.cycles = 0 ∧ (demo.setNmiPending true).cpu.nmiPending = true ∧
    (let s := (demo.setIrqPending true).setP 0x20
     s.cpu.irqPending = true ∧ s.flag .i = false ∧ s.cpu.nmiPending = false) ∧
    (((demo.setIrqPending true).setNmiPending true).setP 0x20).cpu.nmiPending = true := by decide

theorem witness_ReturnsUndoCallsAndInterrupts :
    demo.MemoriesOk ∧ 0x4020 ≤ (0x4020#16).toNat ∧ (0x4020#16).toNat < 0xFFFF ∧ 0x4020 ≤ (0xFFFE#16).toNat ∧
    (0xFFFE#16).toNat < 0xFFFF :=
  ⟨demo_memories, by decide⟩

/-- The ends of the ranges of the CPU address map, with and without a cartridge, PRG-RAM enabled and not. -/
theorem witness_CpuReadMap :
    memRead 0x1FFE demo = (demo, 0) ∧ (memRead 0x09FE demo).2 = 0x80 ∧ (memRead 0x3FFF demo).2 = 0 ∧
    (memRead 0x4000 demo).2 = 0 ∧ (memRead 0x4014 demo).2 = 0 ∧ (memRead 0x4018 demo).2 = 0 ∧
    (memRead 0x5FFF demo).2 = 0 ∧ (memRead 0x6000 demo).2 = 0 ∧ (memRead 0x7FFF demo).2 = 0 ∧
    (memRead 0xFFFB demo).2 = 0x91 ∧ State.reset.cart = none ∧ (memRead 0xFFFB State.reset).2 = 0 ∧
    vectorCart.prgRamEnabled = true ∧
    { vectorCart with mapper := .mmc1 { Mmc1.powerOn with prg := 0x10 } }.prgRamEnabled = false := by decide

/-- The ends of the ranges for writes. -/
theorem witness_CpuWriteMap :
    (memWrite 0x1FFF 1 demo).ram = [(0x1FE, 0x80), (0x7FF, 1)] ∧ (memWrite 0x2000 3 demo).ppu.ctrl = 3 ∧
    (memWrite 0x3FFB 3 demo).ppu.oamaddr = 3 ∧ (memWrite 0x4013 5 demo).apu.dmc.lenReg = 5 ∧
    memWrite 0x4018 1 demo = demo ∧ memWrite 0x5FFF 1 demo = demo ∧ State.reset.cart = none ∧
    memWrite 0x4020 1 State.reset = State.reset ∧
    (memWrite 0x7FFF 1 demo).cart = some { vectorCart with prgRam := [(0x1FFF, 1)] } ∧
    memWrite 0x8000 1 demo = demo := by decide

/-- Pages of memory beside the device pages, the first and the last PPU page, and the page of the ports. -/
theorem witness_OamDmaCopiesAPage :
    demo.MemoriesOk ∧ ¬ (0x20 ≤ (0x1F#8).toNat ∧ (0x1F#8).toNat ≤ 0x40) ∧
    ¬ (0x20 ≤ (0x41#8).toNat ∧ (0x41#8).toNat ≤ 0x40) ∧ (0x20 ≤ (0x20#8).toNat ∧ (0x20#8).toNat ≤ 0x3F) ∧
    (0x20 ≤ (0x3F#8).toNat ∧ (0x3F#8).toNat ≤ 0x3F) ∧ (0x40#8).toNat = 0x40 :=
  ⟨demo_memories, by decide⟩

/-- The strobe at 1 and at 0, and the last index that gives a button. -/
theorem witness_ControllersShiftTheirButtons :
    (memWrite 0x4016 1 demo).ctrl.strobe = true ∧ demo.ctrl.strobe = false ∧ demo.ctrl.port0.index < 8 ∧
    ({ demo.ctrl.port0 with index := 8 }.shiftRead false).2 = 1 ∧
    ({ demo.ctrl.port0 with index := 7, latch := 0x7F }.shiftRead false).2 = 0 := by decide

theorem witness_ScrollAndAddressWrites :
    demo.ppu.w = false ∧ (withVblank demo).ppu.w = true := by decide

/-- The ends of the ranges of the PPU address space, and a write that each range keeps. -/
theorem witness_PpuAddressSpace :
    (0x1FFF#16).toNat % 0x4000 < 0x2000 ∧
    (0x2000 ≤ (0x6000#16).toNat % 0x4000 ∧ (0x6000#16).toNat % 0x4000 < 0x3F00) ∧
    (0x2000 ≤ (0x3EFF#16).toNat % 0x4000 ∧ (0x3EFF#16).toNat % 0x4000 < 0x3F00) ∧
    0x3F00 ≤ (0x3F00#16).toNat % 0x4000 ∧ 0x3F00 ≤ (0xFFFF#16).toNat % 0x4000 ∧ State.reset.cart = none ∧
    (ppuWrite 0x2C05 7 demo).ppu.vram = [(0x405, 7)] ∧ (ppuWrite 0x3F10 0xFF demo).ppu.palette = [(0, 0xFF)] ∧
    demo.MemoriesOk :=
  ⟨by decide, by decide, by decide, by decide, by decide, by decide, by decide, by decide, demo_memories⟩

/-- A position on the frame. -/
def atDot (line : Int) (dot : Nat) (s : State) : State := s.mapPpu fun p => { p with scanline := line, dot := dot }

theorem witness_VblankAndNmiOutput :
    (ppuDot (atDot 241 1 (demo.mapPpu fun p => { p with ctrl := 0x80 }))).ppu.nmiOut = true ∧
    (ppuDot (atDot (-1) 1 (withVblank demo))).ppu.vblank = false := by decide

/-- Positions in range: the skipped dot, the last dot of a line and of the frame. -/
theorem witness_DotsAdvanceThePosition :
    (atDot (-1) 338 demo).PositionOk ∧ (atDot 260 340 demo).PositionOk ∧
    (atDot (-1) 338 (demo.mapPpu fun p => { p with oddFrame := true, mask := 0x08 })).ppu.rendering = true := by
  unfold State.PositionOk
  decide

theorem witness_RenderingOffShowsTheBackdrop :
    demo.MemoriesOk ∧ (atDot 239 256 demo).ppu.rendering = false ∧ (atDot 0 1 demo).ppu.scanline = 0 ∧
    (atDot 239 256 demo).ppu.dot = 256 :=
  ⟨demo_memories, by decide⟩

/-- Both layers opaque at the first and the last pixel of a line: a hit at 0, none at 255, none while hidden. -/
theorem witness_PixelsComposeTheLayers :
    let p (x : Byte) (mask : Byte) : Ppu :=
      { State.reset.ppu with
        mask := mask, shPatLo := 0x8000, sprCount := 1, spr0InLine := true
        slots := Vector.replicate 8 { SpriteSlot.empty with sprite := { y := 0, tile := 0, attr := 0x20, x := x }, lo := 0x80 }
        palette := [(1, 0x31), (17, 0x12)] }
    cellsWf Pixel.blank (p 0 0x1E).frame = true ∧ ((p 0 0x1E).renderPixel 0 0).sprite0Hit = true ∧
    ((p 0 0x1E).renderPixel 0 0).frame = [(0, { colour := 0x31, emphasis := 0 })] ∧
    ((p 0xFF 0x1E).renderPixel 255 239).sprite0Hit = false ∧ ((p 0 0x18).renderPixel 0 0).sprite0Hit = false ∧
    ((p 8 0xF9).renderPixel 8 0).frame = [(8, { colour := 0x30, emphasis := 7 })] := by decide

/-- A line that sprites 1 and 2 reach, by their first and last row, and sprite 0 does not. -/
theorem witness_SpriteEvaluationSelectsTheFirstEight :
    let p := { State.reset.ppu with oam := [(0, 0xF0), (4, 20), (8, 13)] }
    let hits := (List.range 3).filter fun n =>
      decide (0 ≤ (20 : Int) - ((p.oam.read (4 * n)).toNat : Int) ∧ (20 : Int) - ((p.oam.read (4 * n)).toNat : Int) < 8)
    hits[0]? = some 1 ∧ hits[1]? = some 2 := by decide

/-- An enabled channel takes the table entry, a disabled one keeps its length; every field of a control byte. -/
theorem witness_ApuRegisterReadsAndWrites :
    (0x10#8).getLsbD 4 = true ∧ demo.apu.dmc.bytesLeft = 0 ∧ demo.apu.pulse1.enabled = false ∧
    (memWrite 0x4003 0x08 (memWrite 0x4015 0x01 demo)).apu.pulse1.length = 254 ∧
    (memWrite 0x4003 0x08 demo).apu.pulse1.length = 0 ∧ (memWrite 0x400B 0xFF (memWrite 0x4015 4 demo)).apu.tri.length = 30 ∧
    (memWrite 0x4004 0xB7 demo).apu.pulse2.duty = 2 ∧ (memWrite 0x4004 0xB7 demo).apu.pulse2.vol = 7 := by decide

/-- 63_apu.md R671, vectors 6, 7 and 14, and the values where the branches meet. -/
theorem witness_ApuUnitsClockInIntegerArithmetic :
    let p := { Pulse.reset with timerPeriod := 0x100, sweepShift := 1, sweepNegate := true, sweepEn := true }
    (p.clockHalf true).timerPeriod = 0x80 ∧ (p.clockHalf false).timerPeriod = 0x7F ∧
    ({ p with timerPeriod := 0x600, sweepNegate := false }.clockHalf false).timerPeriod = 0x600 ∧
    ({ p with timerPeriod := 7 }.clockHalf true).timerPeriod = 7 ∧ dmcLevel true 126 = 126 ∧ dmcLevel true 125 = 127 ∧
    dmcLevel false 1 = 1 ∧ Noise.reset.lfsr ≠ 0 ∧ Noise.reset.clockTimer.lfsr = 0x4000 := by decide

theorem witness_ApuOutputsStayInRange :
    Pulse.reset.timerPeriod.toNat < 8 ∧ Pulse.reset.length = 0 ∧ Noise.reset.length = 0 ∧
    { Noise.reset with lfsr := 1 }.lfsr.getLsbD 0 = true ∧ dutyBit 0 0 = false := by decide

theorem witness_Mmc1SerialPort :
    Mmc1.powerOn.shift = 0 ∧ Mmc1.powerOn.shiftCount = 0 ∧ (0x7F#8).getLsbD 7 = false ∧
    (0x80#8).getLsbD 7 = true := by decide

/-- A loaded cartridge of each mapper, one bank and the ends of the ROM area; each PRG mode of MMC1 and MMC3. -/
theorem witness_PrgBanksReadTheirRom :
    1 ≤ (cartOf .nrom 1 []).prgBanks ∧ (cartOf .nrom 1 []).mapper = .nrom ∧
    (cartOf (.cnrom 255) 2 []).mapper = .cnrom 255 ∧ (cartOf (.uxrom 255) 8 []).mapper = .uxrom 255 ∧
    (cartOf (.mmc1 Mmc1.powerOn) 8 []).mapper = .mmc1 Mmc1.powerOn ∧ Mmc1.powerOn.control.toNat / 4 % 4 = 3 ∧
    (cartOf (.mmc3 Mmc3.powerOn) 8 []).mapper = .mmc3 Mmc3.powerOn ∧ 0x8000 ≤ (0x8000#16).toNat ∧
    0x8000 ≤ (0xFFFF#16).toNat ∧
    (let s := { demo with cart := some (cartOf (.mmc3 { Mmc3.powerOn with bankSelect := 0x40 }) 2 [(0x4000, 5)]) }
     (memRead 0x8000 s).2 = 5 ∧ (memRead 0xC000 s).2 = 0) ∧
    (let s := { demo with cart := some (cartOf (.mmc1 { Mmc1.powerOn with control := 8, prg := 1 }) 2 [(0x4000, 5)]) }
     (memRead 0x8000 s).2 = 0 ∧ (memRead 0xC000 s).2 = 5) := by decide

/-- The ends of the pattern area, CHR-RAM and CHR-ROM, and each own mirroring of a mapper. -/
theorem witness_ChrBanksAndMirroring :
    demo.cart = some vectorCart ∧ 1 ≤ vectorCart.chrBanks ∧ (0#16).toNat < 0x2000 ∧ (0x1FFF#16).toNat < 0x2000 ∧
    demo.MemoriesOk ∧
    (let s := { demo with cart := some { vectorCart with chrIsRam := true } }
     (ppuRead 0x1FFF (ppuWrite 0x1FFF 9 s)).2 = 9) ∧
    (let s := { demo with cart := some { vectorCart with chrIsRam := false } }
     (ppuRead 0x1FFF (ppuWrite 0x1FFF 9 s)).2 = 0) ∧
    { vectorCart with header := .vertical, mapper := .mmc1 Mmc1.powerOn }.mirroring = .oneScreenLower ∧
    { vectorCart with header := .vertical, mapper := .mmc3 { Mmc3.powerOn with mirroring := true } }.mirroring =
      .horizontal ∧
    { vectorCart with header := .fourScreen, mapper := .mmc1 Mmc1.powerOn }.mirroring = .fourScreen := by
  refine ⟨by decide, by decide, by decide, by decide, demo_memories, by decide, by decide, by decide, by decide,
    by decide⟩

theorem witness_Mmc3ScanlineCounter :
    0xE000 ≤ (0xE000#16).toNat ∧ (0xE000#16).toNat % 2 = 0 ∧ 0xE000 ≤ (0xFFFE#16).toNat ∧
    (0xFFFE#16).toNat % 2 = 0 := by decide

/-- An image that loads, and power-on contents within their sizes. -/
theorem witness_LoadAcceptsExactlyTheSupportedImages :
    let m : PowerOnMem :=
      { ram := [], vram := [], palette := [], oam := [], prgRam := [(0x1FFF, 1)], chrRam := [(0x1FFF, 1)] }
    (∃ t, State.reset.loadCartridge m (image 16384 0 4) = .next t) ∧ m.prgRam.wf = true ∧
      m.prgRam.below 8192 = true ∧ m.chrRam.wf = true ∧ m.chrRam.below 8192 = true := by
  refine ⟨?_, by decide⟩
  unfold State.loadCartridge
  rw [show (image 16384 0 4).mapperId = 4 from rfl]
  simp only [Mapper.ofId, test_accepts, if_true]
  exact ⟨_, rfl⟩

/-- A state with no cartridge, and one with a cartridge whose mapper registers power-on changes. -/
theorem witness_ResetLeavesTheStatedValues :
    State.reset.cart = none ∧ demo.cart = some vectorCart ∧
    (Mapper.mmc1 { Mmc1.powerOn with control := 0, prg := 3 }).powerOn = .mmc1 Mmc1.powerOn ∧
    demo.hostReset.cpu.pc = 0x8000 := by decide

/-- States that meet the invariants, with a next state each. -/
theorem witness_invariants :
    demo.MemoriesOk ∧ demo.PositionOk ∧ demo.StatusOk ∧
    (demo.cpu.dmaStall = 0 ∧ demo.ppu.sprCount ≤ 8 ∧ demo.ctrl.port0.index ≤ 8 ∧ demo.ctrl.port1.index ≤ 8) ∧
    part (step demo) (fun t => t.cpu.opcode) = some 0 := by
  refine ⟨demo_memories, ?_, ?_, by decide, by decide⟩
  · unfold State.PositionOk
    decide
  · unfold State.StatusOk
    decide

/-- The same state meets the invariant of the counters. -/
theorem witness_EveryStepKeepsTheCounters : demo.CountersOk := by
  refine ⟨by decide, by decide, by decide, by decide, ?_, ?_⟩
  · unfold Apu.CountersOk
    decide
  · intro c hc
    obtain rfl : vectorCart = c := Option.some.inj hc
    exact trivial

end Sys2Proof.Tests
end

section
/-! PROOF. The CPU address map: one equation per region for the bus read and the bus write, and the two
obligations assembled from them (20_memory.md R103, R105, R106, 64_cartridge_mappers.md R702). -/

namespace Sys2Proof.Machine

/-! ## The cartridge behind the bus (R700, R702) -/

/-- A change of the cartridge with none loaded. -/
theorem State.mapCart_of_none (f : Cart → Cart) (s : State) (h : s.cart = none) : s.mapCart f = s := by
  unfold State.mapCart
  rw [h, Option.map_none, ← h]

theorem State.mapCart_of_some (f : Cart → Cart) (s : State) (c : Cart) (h : s.cart = some c) :
    s.mapCart f = { s with cart := some (f c) } := by
  unfold State.mapCart
  rw [h, Option.map_some]

/-- A change that keeps the loaded cartridge keeps the state. -/
theorem State.mapCart_of_fixed (f : Cart → Cart) (s : State) (h : ∀ c, s.cart = some c → f c = c) :
    s.mapCart f = s := by
  cases hc : s.cart with
  | none => exact State.mapCart_of_none f s hc
  | some c => rw [State.mapCart_of_some f s c hc, h c hc, ← hc]

/-- No mapper handles a read below $6000. -/
theorem Cart.cpuRead_expansion (c : Cart) (a : Word) (h : a.toNat < 0x6000) : c.cpuRead a = none := by
  unfold Cart.cpuRead
  rw [if_neg (by omega), if_neg (by omega)]

theorem Cart.cpuRead_prgRam (c : Cart) (a : Word) (hlo : 0x6000 ≤ a.toNat) (hhi : a.toNat ≤ 0x7FFF) :
    c.cpuRead a = some (if c.prgRamEnabled then c.prgRam.read (a.toNat - 0x6000) else 0) := by
  unfold Cart.cpuRead
  rw [if_neg (by omega), if_pos hlo]

theorem Cart.cpuRead_prgRom (c : Cart) (a : Word) (h : 0x8000 ≤ a.toNat) :
    c.cpuRead a = some (c.prgRom.read (c.prgIndex a)) := by
  unfold Cart.cpuRead
  rw [if_pos h]

/-- Every mapper ignores a write below $6000. -/
theorem Cart.cpuWrite_expansion (c : Cart) (a : Word) (v : Byte) (h : a.toNat < 0x6000) : c.cpuWrite a v = c := by
  unfold Cart.cpuWrite
  rw [if_neg (by omega), if_neg (by omega)]

theorem Cart.cpuWrite_prgRam (c : Cart) (a : Word) (v : Byte) (hlo : 0x6000 ≤ a.toNat) (hhi : a.toNat ≤ 0x7FFF) :
    c.cpuWrite a v =
      if c.prgRamEnabled then { c with prgRam := c.prgRam.write (a.toNat - 0x6000) v } else c := by
  unfold Cart.cpuWrite
  rw [if_neg (by omega), if_pos hlo]

theorem Cart.cpuWrite_prgRom (c : Cart) (a : Word) (v : Byte) (h : 0x8000 ≤ a.toNat) :
    c.cpuWrite a v = { c with mapper := c.mapper.write a v } := by
  unfold Cart.cpuWrite
  rw [if_pos h]

theorem State.cartRead_of_none (s : State) (a : Word) (h : s.cart = none) : s.cartRead a = 0 := by
  unfold State.cartRead
  rw [h]

theorem State.cartRead_of_some (s : State) (a : Word) (c : Cart) (h : s.cart = some c) :
    s.cartRead a = (c.cpuRead a).getD 0 := by
  unfold State.cartRead
  rw [h]

/-- The expansion area reads 0, with a cartridge or without. -/
theorem State.cartRead_expansion (s : State) (a : Word) (h : a.toNat < 0x6000) : s.cartRead a = 0 := by
  cases hc : s.cart with
  | none => exact s.cartRead_of_none a hc
  | some c =>
    rw [s.cartRead_of_some a c hc, c.cpuRead_expansion a h]
    rfl

/-- PRG-RAM reads its byte while a cartridge enables it, and 0 otherwise. -/
theorem State.cartRead_prgRam (s : State) (a : Word) (hlo : 0x6000 ≤ a.toNat) (hhi : a.toNat ≤ 0x7FFF) :
    s.cartRead a =
      if (s.cart.map Cart.prgRamEnabled).getD false then s.byteAt .prgRam (a.toNat - 0x6000) else 0 := by
  cases hc : s.cart with
  | none =>
    rw [s.cartRead_of_none a hc]
    rfl
  | some c =>
    rw [s.cartRead_of_some a c hc, c.cpuRead_prgRam a hlo hhi]
    simp [State.byteAt, State.memoryOf, hc]

/-- PRG-ROM reads through the mapper's banking. -/
theorem State.cartRead_prgRom (s : State) (a : Word) (c : Cart) (hc : s.cart = some c) (h : 0x8000 ≤ a.toNat) :
    s.cartRead a = c.prgRom.read (c.prgIndex a) := by
  rw [s.cartRead_of_some a c hc, c.cpuRead_prgRom a h]
  rfl

/-! ## Bus reads, region by region (R105)

The cartridge area is `memRead_cartridge`. -/

/-- The register that a PPU address selects (R103). -/
theorem ppuRegister_index (a : Word) : (a &&& 7).toNat = a.toNat % 8 := by
  rw [BitVec.toNat_and]
  exact Nat.and_two_pow_sub_one_eq_mod a.toNat 3

theorem memRead_internalRam (a : Word) (s : State) (h : a.toNat ≤ 0x1FFF) :
    memRead a s = (s, s.byteAt .ram (a.toNat % 2048)) := by
  unfold memRead
  rw [if_neg (by omega), if_pos h, ramIndex_eq]
  rfl

theorem memRead_ppuRegister (a : Word) (s : State) (hlo : 0x2000 ≤ a.toNat) (hhi : a.toNat ≤ 0x3FFF) :
    memRead a s = ppuRegRead (a.toNat % 8) s := by
  unfold memRead
  rw [if_neg (by omega), if_neg (by omega), if_pos hhi, ppuRegister_index]

/-- The write-only registers read 0. -/
theorem memRead_writeOnly (a : Word) (s : State) (hlo : 0x4000 ≤ a.toNat) (hhi : a.toNat ≤ 0x4014) :
    memRead a s = (s, 0) := by
  unfold memRead
  rw [if_neg (by omega), if_neg (by omega), if_neg (by omega), if_neg (by omega), if_neg (by omega),
    if_neg (by omega)]

theorem memRead_apuStatus (s : State) : memRead 0x4015 s = apuStatusRead s := rfl
theorem memRead_controller1 (s : State) : memRead 0x4016 s = controllerRead false s := rfl
theorem memRead_controller2 (s : State) : memRead 0x4017 s = controllerRead true s := rfl

/-- $4018-$401F are unmapped, and no mapper handles $4020-$5FFF. -/
theorem memRead_expansion (a : Word) (s : State) (hlo : 0x4018 ≤ a.toNat) (hhi : a.toNat ≤ 0x5FFF) :
    memRead a s = (s, 0) := by
  by_cases h : 0x4020 ≤ a.toNat
  · rw [memRead_cartridge a s h, s.cartRead_expansion a (by omega)]
  · unfold memRead
    rw [if_neg h, if_neg (by omega), if_neg (by omega), if_neg (by omega), if_neg (by omega), if_neg (by omega)]

/-! ## Bus writes, region by region (R106) -/

theorem memWrite_internalRam (a : Word) (v : Byte) (s : State) (h : a.toNat ≤ 0x1FFF) :
    memWrite a v s = { s with ram := s.ram.write (a.toNat % 2048) v } := by
  rw [memWrite_quiet a v s (by omega), if_pos h, ← ramIndex_eq]
  rfl

theorem memWrite_ppuRegister (a : Word) (v : Byte) (s : State) (hlo : 0x2000 ≤ a.toNat) (hhi : a.toNat ≤ 0x3FFF) :
    memWrite a v s = ppuRegWrite (a.toNat % 8) v s := by
  unfold memWrite
  rw [if_neg (by omega), if_neg (by omega), if_pos hhi, ppuRegister_index]

theorem memWrite_apuRegister (a : Word) (v : Byte) (s : State) (hlo : 0x4000 ≤ a.toNat)
    (h : a.toNat ≤ 0x4013 ∨ a.toNat = 0x4015 ∨ a.toNat = 0x4017) :
    memWrite a v s = { s with apu := s.apu.writeRegister (a.toNat - 0x4000) v } := by
  unfold memWrite
  rw [if_neg (by omega), if_neg (by omega), if_neg (by omega), if_neg (by omega), if_neg (by omega), if_pos h]
  rfl

theorem memWrite_oamDma (v : Byte) (s : State) : memWrite 0x4014 v s = oamDma v s := rfl
theorem memWrite_strobe (v : Byte) (s : State) : memWrite 0x4016 v s = { s with ctrl := s.ctrl.writeStrobe v } := rfl

theorem memWrite_cartridge (a : Word) (v : Byte) (s : State) (h : 0x4020 ≤ a.toNat) :
    memWrite a v s = s.mapCart fun c => c.cpuWrite a v := by
  rw [memWrite_quiet a v s (by omega), if_neg (by omega)]

/-- $4018-$401F are unmapped, and every mapper ignores $4020-$5FFF. -/
theorem memWrite_expansion (a : Word) (v : Byte) (s : State) (hlo : 0x4018 ≤ a.toNat) (hhi : a.toNat ≤ 0x5FFF) :
    memWrite a v s = s := by
  by_cases h : 0x4020 ≤ a.toNat
  · rw [memWrite_cartridge a v s h]
    exact s.mapCart_of_fixed _ fun c _ => c.cpuWrite_expansion a v (by omega)
  · unfold memWrite
    rw [if_neg h, if_neg (by omega), if_neg (by omega), if_neg (by omega), if_neg (by omega), if_neg (by omega)]

theorem memWrite_prgRam (a : Word) (v : Byte) (s : State) (c : Cart) (hc : s.cart = some c)
    (hlo : 0x6000 ≤ a.toNat) (hhi : a.toNat ≤ 0x7FFF) :
    memWrite a v s = if c.prgRamEnabled then
      { s with cart := some { c with prgRam := c.prgRam.write (a.toNat - 0x6000) v } } else s := by
  rw [memWrite_cartridge a v s (by omega), s.mapCart_of_some _ c hc, c.cpuWrite_prgRam a v hlo hhi]
  split
  · rfl
  · rw [← hc]

theorem memWrite_mapperRegister (a : Word) (v : Byte) (s : State) (c : Cart) (hc : s.cart = some c)
    (h : 0x8000 ≤ a.toNat) :
    memWrite a v s = { s with cart := some { c with mapper := c.mapper.write a v } } := by
  rw [memWrite_cartridge a v s (by omega), s.mapCart_of_some _ c hc, c.cpuWrite_prgRom a v h]

/-! ## The address map -/

/-- Settles O31: each clause is the read equation of its region. -/
theorem cpuReadMap : Obligations.CpuReadMap := by
  intro a s
  refine ⟨memRead_internalRam a s, memRead_ppuRegister a s, memRead_writeOnly a s, fun h => ?_, fun h => ?_,
    fun h => ?_, memRead_expansion a s, fun hlo hhi => ?_, fun h => ⟨fun hc => ?_, fun c hc => ?_⟩⟩
  · obtain rfl : a = 0x4015 := BitVec.eq_of_toNat_eq h
    exact memRead_apuStatus s
  · obtain rfl : a = 0x4016 := BitVec.eq_of_toNat_eq h
    exact memRead_controller1 s
  · obtain rfl : a = 0x4017 := BitVec.eq_of_toNat_eq h
    exact memRead_controller2 s
  · rw [memRead_cartridge a s (by omega), s.cartRead_prgRam a hlo hhi]
  · rw [memRead_cartridge a s (by omega), s.cartRead_of_none a hc]
  · rw [memRead_cartridge a s (by omega), s.cartRead_prgRom a c hc h]

/-- Settles O32: each clause is the write equation of its region. -/
theorem cpuWriteMap : Obligations.CpuWriteMap := by
  intro a v s
  refine ⟨memWrite_internalRam a v s, memWrite_ppuRegister a v s,
    fun hlo h _ => memWrite_apuRegister a v s hlo h, fun h => ?_, fun h => ?_, memWrite_expansion a v s,
    fun hc h => ?_, fun c hc => ⟨memWrite_prgRam a v s c hc, memWrite_mapperRegister a v s c hc⟩⟩
  · obtain rfl : a = 0x4014 := BitVec.eq_of_toNat_eq h
    exact memWrite_oamDma v s
  · obtain rfl : a = 0x4016 := BitVec.eq_of_toNat_eq h
    exact memWrite_strobe v s
  · rw [memWrite_cartridge a v s h, s.mapCart_of_none _ hc]

end Sys2Proof.Machine
end

section
/-! PROOF. The read class of R197: the opcodes whose row pays the page-cross cycle (40_addressing.md R197). -/

namespace Sys2Proof.Machine

/-! ## The page-cross class (R197) -/

/-- The 31 opcodes of R197, group by group: the seven accumulator reads in ABX, ABY and IZY; LDX and LDY; LAX;
the ABX NOPs. -/
def readClass : List Byte :=
  [0x7D, 0x79, 0x71, 0x3D, 0x39, 0x31, 0xDD, 0xD9, 0xD1, 0x5D, 0x59, 0x51, 0xBD, 0xB9, 0xB1,
    0x1D, 0x19, 0x11, 0xFD, 0xF9, 0xF1] ++
  [0xBE, 0xBC] ++ [0xBF, 0xB3] ++ [0x1C, 0x3C, 0x5C, 0x7C, 0xDC, 0xFC]

/-- Every opcode of R197 has a row whose cycles column reads `n+p`. -/
theorem paysCross_of_mem_readClass : ∀ op ∈ readClass, (opcodeRow op).paysCross = true := by
  decide

set_option maxRecDepth 100000 in
/-- R197 leaves out no row of the table that reads `n+p`. -/
theorem mem_readClass_of_paysCross : ∀ op : Byte, (opcodeRow op).paysCross = true → op ∈ readClass := by
  decide

/-- Settles O4: the listed rows pay, and no row outside the list does. -/
theorem readClassIsTheThirtyOneOpcodes : Obligations.ReadClassIsTheThirtyOneOpcodes := by
  intro op
  exact ⟨mem_readClass_of_paysCross op, paysCross_of_mem_readClass op⟩

end Sys2Proof.Machine
end

section
/-! PROOF. RTS and RTI: the state after each return in closed form, and the frame that they share
(45_control_flow.md R303, R304, 60_exceptions.md R412). -/

namespace Sys2Proof.Machine

/-! ## The two returns (R303, R304, R412) -/

/-- RTS moves SP by two and continues one past the word that it pulled; P is written back as it was. -/
theorem opRts_eq (o : Operand) (s : State) :
    opRts o s = ((s.setSp (s.cpu.sp + 2)).setP s.cpu.p).setPc
      (BitVec.ofNat 16 (256 * (s.stackByte (s.cpu.sp + 2)).toNat + (s.stackByte (s.cpu.sp + 1)).toNat + 1)) := by
  unfold opRts
  rw [pullWord_eq]
  dsimp only
  rw [mkWord_eq, BitVec.ofNat_add _ 1]
  rfl

/-- RTI moves SP by three: one byte for P, then the word that becomes PC. -/
theorem opRti_eq (o : Operand) (s : State) :
    opRti o s = ((s.setSp (s.cpu.sp + 3)).setP (pulledP (s.stackByte (s.cpu.sp + 1)))).setPc
      (BitVec.ofNat 16 (256 * (s.stackByte (s.cpu.sp + 3)).toNat + (s.stackByte (s.cpu.sp + 2)).toNat)) := by
  have h2 : s.cpu.sp + 1 + 1 = s.cpu.sp + 2 := by bv_omega
  have h3 : s.cpu.sp + 1 + 2 = s.cpu.sp + 3 := by bv_omega
  unfold opRti returnFromInterrupt
  rw [pull_eq]
  dsimp only
  rw [pullWord_eq, mkWord_eq, State.setP_cpu_sp, State.setSp_cpu_sp, h2, h3]
  rfl

set_option maxRecDepth 100000 in
/-- Both returns are implied instructions of six cycles. -/
theorem return_row (i : Instr) (h : i.operation = .rts ∨ i.operation = .rti) :
    i.mode = .imp ∧ i.row.cycles = 6 :=
  all_rows (q := fun r => r.operation = .rts ∨ r.operation = .rti → r.mode = .imp ∧ r.cycles = 6) (by decide) i h

/-- A return completes: when its operation writes SP, P and PC alone, these are the changes, and no byte changes. -/
theorem completes_return (i : Instr) (s : State) (o : Operation) (h : i.operation = o) (ho : o = .rts ∨ o = .rti)
    (sp p : Byte) (pc : Word)
    (hop : operationOf o .memory (s.setDmaStall 0) = (((s.setDmaStall 0).setSp sp).setP p).setPc pc) :
    Completes i s fun t =>
      RegistersAre t s.cpu.a s.cpu.x s.cpu.y sp pc ∧ t.cpu.p = p ∧ Ends s s t 6 ∧ SameOutside s t ∧
        SameBytes s t := by
  obtain ⟨hmode, hcycles⟩ := return_row i (h ▸ ho)
  refine completes_implied i s o h (by rcases ho with rfl | rfl <;> decide) hmode _ ?_
  rw [hop, hcycles]
  have hout := sameOutside_withCpu (finishCycles 6 ((((s.setDmaStall 0).setSp sp).setP p).setPc pc)).cpu s
  refine ⟨?_, rfl, ?_, hout, hout.bytes⟩
  · simp [RegistersAre]
  · simp [Ends, SameLatches, SameWorking]

/-- Settles O20: RTS and RTI are returns, and RTI's P is the pulled byte with B = 0 and U = 1. -/
theorem returnsPullPc : Obligations.ReturnsPullPc := by
  intro i s at1 at2 at3
  constructor
  · intro h
    exact completes_return i s .rts h (.inl rfl) _ _ _ (opRts_eq .memory _)
  · intro h
    obtain ⟨t, hexec, hregs, hp, hframe⟩ := completes_return i s .rti h (.inr rfl) _ _ _ (opRti_eq .memory _)
    have hflag (f : Flag) : t.flag f = if f = .b then false else if f = .u then true else flagOf f at1 := by
      rw [← flagOf_pulledP, State.flag, hp]
      rfl
    refine ⟨t, hexec, hregs, ⟨hflag .b, hflag .u, fun f hb hu => ?_⟩, hframe⟩
    rw [hflag, if_neg hb, if_neg hu]

end Sys2Proof.Machine
end

section
/-! PROOF. The CPU-visible PPU registers: what an access of $2000 to $2007 does, field by field, and the two dots of
vblank (62_ppu.md R520 to R530, R570 to R572). -/

namespace Sys2Proof.Machine

/-! ## A field of a register in numbers -/

/-- Replacing the `m` bits from bit `k` on: `keep` has 1 exactly outside the field, and `f` fits in it. -/
theorem toNat_replaceField {n : Nat} (t keep f : BitVec n) (k m : Nat) (hf : f.toNat < 2 ^ m)
    (hkeep : ∀ i : Fin n, keep.getLsbD i = decide (i < k ∨ k + m ≤ i)) (hkm : k + m ≤ n) :
    ((t &&& keep) ||| f <<< k).toNat = 2 ^ k * (2 ^ m * (t.toNat / 2 ^ (k + m)) + f.toNat) + t.toNat % 2 ^ k := by
  refine Nat.eq_of_testBit_eq fun i => ?_
  have hfOut (h : k + m ≤ i) : f.getLsbD (i - k) = false :=
    Nat.testBit_lt_two_pow (hf.trans_le (Nat.pow_le_pow_right (by decide) (by omega)))
  rw [Nat.testBit_two_pow_mul_add _ (Nat.mod_lt _ (Nat.two_pow_pos k)), Nat.testBit_two_pow_mul_add _ hf,
    Nat.testBit_div_two_pow, Nat.testBit_mod_two_pow]
  simp only [BitVec.testBit_toNat, BitVec.getLsbD_or, BitVec.getLsbD_and, BitVec.getLsbD_shiftLeft]
  by_cases hi : i < n
  · rw [hkeep ⟨i, hi⟩]
    by_cases hlo : i < k
    · simp [hlo, hi]
    · by_cases hhi : i < k + m
      · simp [hlo, hi, show ¬ k + m ≤ i by omega, show i - k < m by omega]
      · simp [hlo, hi, hfOut (by omega), show k + m ≤ i by omega, show ¬ i - k < m by omega,
          show i - k - m + (k + m) = i by omega]
  · simp [hi, show ¬ i < k by omega, show ¬ i - k < m by omega, show i - k - m + (k + m) = i by omega,
      BitVec.getLsbD_of_ge t i (by omega)]

/-- The low `m` bits of a data byte, as a 15-bit field. -/
theorem toNat_lowField (d mask : Byte) (m : Nat) (h : mask.toNat = 2 ^ m - 1) :
    ((d &&& mask).setWidth 15).toNat = d.toNat % 2 ^ m := by
  rw [BitVec.toNat_setWidth_of_le (by decide), BitVec.toNat_and, h, Nat.and_two_pow_sub_one_eq_mod]

/-- The high five bits of a data byte, as a 15-bit field. -/
theorem toNat_highField (d : Byte) : ((d >>> 3).setWidth 15).toNat = d.toNat / 8 := by
  rw [BitVec.toNat_setWidth_of_le (by decide), BitVec.toNat_ushiftRight, Nat.shiftRight_eq_div_pow]

theorem coarseX_toNat (v : BitVec 15) : (coarseX v).toNat = v.toNat % 32 := by
  simp [coarseX, BitVec.extractLsb'_toNat]

theorem coarseY_toNat (v : BitVec 15) : (coarseY v).toNat = v.toNat / 32 % 32 := by
  simp [coarseY, BitVec.extractLsb'_toNat, Nat.shiftRight_eq_div_pow]

theorem fineY_toNat (v : BitVec 15) : (fineY v).toNat = v.toNat / 4096 % 8 := by
  simp [fineY, BitVec.extractLsb'_toNat, Nat.shiftRight_eq_div_pow]

/-! ## PPUCTRL, PPUSCROLL and PPUADDR (R525, R529, R530) -/

/-- Bits 1-0 of PPUCTRL become bits 11-10 of `t`. -/
theorem Ppu.writeCtrl_t (d : Byte) (p : Ppu) :
    (p.writeCtrl d).t.toNat = 1024 * (4 * (p.t.toNat / 4096) + d.toNat % 4) + p.t.toNat % 1024 := by
  have hf := toNat_lowField d 0x03 2 rfl
  have h := toNat_replaceField p.t (~~~0x0C00#15) ((d &&& 0x03).setWidth 15) 10 2 (by omega) (by decide) (by decide)
  rwa [hf] at h

/-- The first $2005 write. -/
theorem Ppu.writeScroll_first (d : Byte) (p : Ppu) (hw : p.w = false) :
    p.writeScroll d = { p with x := d.extractLsb' 0 3, t := (p.writeScroll d).t, w := true } ∧
      (p.writeScroll d).t.toNat = 32 * (p.t.toNat / 32) + d.toNat / 8 := by
  have hf := toNat_highField d
  have h := toNat_replaceField p.t (~~~0x001F#15) ((d >>> 3).setWidth 15) 0 5 (by omega) (by decide) (by decide)
  rw [hf, BitVec.shiftLeft_zero, pow_zero, Nat.mod_one, one_mul, add_zero] at h
  unfold Ppu.writeScroll
  rw [hw]
  exact ⟨rfl, h⟩

/-- The two fields of the second $2005 write, replaced one after the other. -/
theorem replaceFields_fineY_coarseY (t f g : BitVec 15) :
    (t &&& ~~~0x73E0#15) ||| f <<< 12 ||| g <<< 5 =
      (((t &&& ~~~0x7000#15) ||| f <<< 12) &&& ~~~0x03E0#15) ||| g <<< 5 := by
  ext i hi
  interval_cases i <;> simp

/-- The second $2005 write. -/
theorem Ppu.writeScroll_second (d : Byte) (p : Ppu) (hw : p.w = true) :
    p.writeScroll d = { p with t := (p.writeScroll d).t, w := false } ∧
      (p.writeScroll d).t.toNat =
        4096 * (d.toNat % 8) + 1024 * (p.t.toNat / 1024 % 4) + 32 * (d.toNat / 8) + p.t.toNat % 32 := by
  have hf := toNat_lowField d 0x07 3 rfl
  have hg := toNat_highField d
  have hfine := toNat_replaceField p.t (~~~0x7000#15) ((d &&& 0x07).setWidth 15) 12 3
    (by omega) (by decide) (by decide)
  have hcoarse := toNat_replaceField ((p.t &&& ~~~0x7000#15) ||| (d &&& 0x07).setWidth 15 <<< 12) (~~~0x03E0#15)
    ((d >>> 3).setWidth 15) 5 5 (by omega) (by decide) (by decide)
  rw [← replaceFields_fineY_coarseY, hfine, hf, hg] at hcoarse
  unfold Ppu.writeScroll
  rw [hw]
  exact ⟨rfl, hcoarse.trans (by omega)⟩

/-- The first $2006 write. -/
theorem Ppu.writeAddr_first (d : Byte) (p : Ppu) (hw : p.w = false) :
    p.writeAddr d = { p with t := (p.writeAddr d).t, w := true } ∧
      (p.writeAddr d).t.toNat = 256 * (d.toNat % 64) + p.t.toNat % 256 := by
  have hf := toNat_lowField d 0x3F 6 rfl
  have h := toNat_replaceField p.t 0x00FF#15 ((d &&& 0x3F).setWidth 15) 8 7 (by omega) (by decide) (by decide)
  rw [hf] at h
  unfold Ppu.writeAddr
  rw [hw]
  exact ⟨rfl, h.trans (by omega)⟩

/-- The second $2006 write. -/
theorem Ppu.writeAddr_second (d : Byte) (p : Ppu) (hw : p.w = true) :
    p.writeAddr d = { p with t := (p.writeAddr d).t, v := (p.writeAddr d).t, w := false } ∧
      (p.writeAddr d).t.toNat = 256 * (p.t.toNat / 256) + d.toNat := by
  have hf : (d.setWidth 15).toNat = d.toNat := BitVec.toNat_setWidth_of_le (by decide)
  have h := toNat_replaceField p.t 0x7F00#15 (d.setWidth 15) 0 8 (by omega) (by decide) (by decide)
  rw [hf, BitVec.shiftLeft_zero, pow_zero, Nat.mod_one, one_mul, add_zero] at h
  unfold Ppu.writeAddr
  rw [hw]
  exact ⟨rfl, h⟩

theorem memWrite_ppuCtrl (d : Byte) (s : State) : memWrite 0x2000 d s = s.mapPpu (Ppu.writeCtrl d) := rfl
theorem memWrite_ppuScroll (d : Byte) (s : State) : memWrite 0x2005 d s = s.mapPpu (Ppu.writeScroll d) := rfl
theorem memWrite_ppuAddr (d : Byte) (s : State) : memWrite 0x2006 d s = s.mapPpu (Ppu.writeAddr d) := rfl

/-- Settles O37: the four writes, and the fields of `t` as quotients and remainders of its value. -/
theorem scrollAndAddressWrites : Obligations.ScrollAndAddressWrites := by
  intro d s
  rw [memWrite_ppuScroll, memWrite_ppuAddr]
  dsimp only [State.mapPpu_ppu]
  constructor
  · intro hw
    obtain ⟨hscroll, hst⟩ := s.ppu.writeScroll_first d hw
    obtain ⟨haddr, hat⟩ := s.ppu.writeAddr_first d hw
    have hx : (s.ppu.writeScroll d).x = d.extractLsb' 0 3 := congrArg Ppu.x hscroll
    refine ⟨hx ▸ hscroll, ?_, ?_, ?_, haddr, hat⟩
    · rw [hx, BitVec.extractLsb'_toNat, Nat.shiftRight_zero]
    · rw [coarseX_toNat]
      omega
    · omega
  · intro hw
    obtain ⟨hscroll, hst⟩ := s.ppu.writeScroll_second d hw
    have hd : d.toNat / 8 < 32 := Nat.div_lt_of_lt_mul d.isLt
    have hfine : (s.ppu.writeScroll d).t.toNat / 4096 = d.toNat % 8 := by omega
    have hhigh : (s.ppu.writeScroll d).t.toNat / 1024 = 4 * (d.toNat % 8) + s.ppu.t.toNat / 1024 % 4 := by omega
    refine ⟨hscroll, ?_, ?_, BitVec.eq_of_toNat_eq ?_, BitVec.eq_of_toNat_eq ?_, ?_⟩
    · rw [fineY_toNat]
      omega
    · rw [coarseY_toNat]
      omega
    · rw [coarseX_toNat, coarseX_toNat]
      omega
    · rw [BitVec.extractLsb'_toNat, BitVec.extractLsb'_toNat, Nat.shiftRight_eq_div_pow, Nat.shiftRight_eq_div_pow]
      omega
    · obtain ⟨haddr, hat⟩ := s.ppu.writeAddr_second d hw
      have hv : (s.ppu.writeAddr d).v = (s.ppu.writeAddr d).t := congrArg Ppu.v haddr
      exact ⟨hv ▸ haddr, hat⟩

/-! ## PPUDATA (R527, R528) -/

/-- The bus address of `v` is `v` modulo the 14-bit address space. -/
theorem Ppu.vAddr_toNat (p : Ppu) : p.vAddr.toNat = p.v.toNat % 0x4000 := by
  unfold Ppu.vAddr
  rw [BitVec.toNat_and, BitVec.toNat_setWidth_of_le (by decide)]
  exact Nat.and_two_pow_sub_one_eq_mod _ 14

theorem Ppu.vAddr_eq_ofNat (p : Ppu) : p.vAddr = BitVec.ofNat 16 (p.v.toNat % 0x4000) := by
  rw [← p.vAddr_toNat, BitVec.ofNat_toNat, BitVec.setWidth_eq]

/-- A palette read refills the buffer from the nametable $1000 below `v`. -/
theorem Ppu.underPalette_eq_ofNat (p : Ppu) (h : 0x3F00 ≤ p.v.toNat % 0x4000) :
    p.vAddr - 0x1000 = BitVec.ofNat 16 (p.v.toNat % 0x4000 - 0x1000) := by
  rw [p.vAddr_eq_ofNat]
  bv_omega

/-- A read at `v` in the palette gives the palette entry. -/
theorem ppuRead_vAddr_palette (s : State) (h : 0x3F00 ≤ s.ppu.vAddr.toNat) :
    ppuRead s.ppu.vAddr s = (s, s.ppu.paletteAt s.ppu.vAddr) := by
  have hmask : s.ppu.vAddr &&& 0x3FFF = s.ppu.vAddr := by
    rw [Ppu.vAddr, BitVec.and_assoc, BitVec.and_self]
  unfold ppuRead
  rw [hmask]
  exact if_neg (by omega)

/-- A PPU write moves neither `v` nor the increment of PPUCTRL. -/
theorem ppuWrite_v_increment (a : Word) (d : Byte) (s : State) :
    (ppuWrite a d s).ppu.v = s.ppu.v ∧ (ppuWrite a d s).ppu.increment = s.ppu.increment := by
  unfold ppuWrite
  dsimp only
  split
  · split <;> exact ⟨rfl, rfl⟩
  · exact ⟨rfl, rfl⟩

theorem memWrite_ppuData (d : Byte) (s : State) : memWrite 0x2007 d s = writeData d s := rfl

/-- A PPUDATA read below the palette. -/
theorem readData_buffered (s : State) (h : s.ppu.vAddr.toNat < 0x3F00) :
    readData s = ((ppuRead s.ppu.vAddr s).1.mapPpu
      fun p => { p with dataBuffer := (ppuRead s.ppu.vAddr s).2 }.advanceV, s.ppu.dataBuffer) := by
  unfold readData
  exact if_neg (by omega)

/-- A PPUDATA read in the palette. -/
theorem readData_palette (s : State) (h : 0x3F00 ≤ s.ppu.vAddr.toNat) :
    readData s = ((ppuRead (s.ppu.vAddr - 0x1000) s).1.mapPpu
      fun p => { p with dataBuffer := (ppuRead (s.ppu.vAddr - 0x1000) s).2 }.advanceV,
      (ppuRead s.ppu.vAddr s).2) := by
  rw [ppuRead_vAddr_palette s h]
  unfold readData
  exact if_pos h

/-- The change of the PPU by a PPUDATA read, after the bus read that refills the buffer. -/
theorem mapPpu_refill (a : Word) (b : Byte) (s : State) :
    ((ppuRead a s).1.mapPpu fun p => { p with dataBuffer := b }.advanceV) =
      { (ppuRead a s).1 with ppu := { s.ppu with dataBuffer := b, v := s.ppu.v + s.ppu.increment } } := by
  rw [State.mapPpu, ppuRead_ppu]
  rfl

/-- The change of the PPU by a PPUDATA write, after the bus write. -/
theorem writeData_eq (d : Byte) (s : State) :
    writeData d s = { ppuWrite s.ppu.vAddr d s with
      ppu := { (ppuWrite s.ppu.vAddr d s).ppu with v := s.ppu.v + s.ppu.increment } } := by
  obtain ⟨hv, hincrement⟩ := ppuWrite_v_increment s.ppu.vAddr d s
  rw [writeData, State.mapPpu, Ppu.advanceV, hv, hincrement]

/-- Settles O38: the reads on the two sides of $3F00, and the write. -/
theorem dataPortReadsThroughTheBuffer : Obligations.DataPortReadsThroughTheBuffer := by
  intro d s a step r under
  have ha : s.ppu.vAddr.toNat = a := s.ppu.vAddr_toNat
  have hr : r = readData s := rfl
  rw [memWrite_ppuData, writeData_eq, s.ppu.vAddr_eq_ofNat]
  by_cases h : 0x3F00 ≤ a
  · have hunder : under = ppuRead (s.ppu.vAddr - 0x1000) s := by
      rw [s.ppu.underPalette_eq_ofNat h]
      exact congrArg (fun n => ppuRead (BitVec.ofNat 16 n) s) (if_pos h)
    rw [hr, readData_palette s (ha ▸ h), mapPpu_refill, hunder, if_pos h, s.ppu.vAddr_eq_ofNat]
    exact ⟨rfl, rfl, rfl⟩
  · have hunder : under = ppuRead s.ppu.vAddr s := by
      rw [s.ppu.vAddr_eq_ofNat]
      exact congrArg (fun n => ppuRead (BitVec.ofNat 16 n) s) (if_neg h)
    rw [hr, readData_buffered s (by omega), mapPpu_refill, hunder, if_neg h]
    exact ⟨rfl, rfl, rfl⟩

/-! ## Vblank (R570 to R572) -/

/-- The advance of the position moves nothing else of the PPU. -/
theorem Ppu.advance_frame (d : Nat) (rendering : Bool) (p : Ppu) :
    ∃ line dot done odd, p.advance d rendering =
      { p with scanline := line, dot := dot, frameComplete := done, oddFrame := odd } := by
  unfold Ppu.advance
  extract_lets nextDot
  split
  · split <;> exact ⟨_, _, _, _, rfl⟩
  · exact ⟨_, _, _, _, rfl⟩

@[simp] theorem Ppu.advance_vblank (d : Nat) (rendering : Bool) (p : Ppu) :
    (p.advance d rendering).vblank = p.vblank := by
  obtain ⟨_, _, _, _, h⟩ := p.advance_frame d rendering
  rw [h]
@[simp] theorem Ppu.advance_sprite0Hit (d : Nat) (rendering : Bool) (p : Ppu) :
    (p.advance d rendering).sprite0Hit = p.sprite0Hit := by
  obtain ⟨_, _, _, _, h⟩ := p.advance_frame d rendering
  rw [h]
@[simp] theorem Ppu.advance_spriteOverflow (d : Nat) (rendering : Bool) (p : Ppu) :
    (p.advance d rendering).spriteOverflow = p.spriteOverflow := by
  obtain ⟨_, _, _, _, h⟩ := p.advance_frame d rendering
  rw [h]
@[simp] theorem Ppu.advance_nmiOut (d : Nat) (rendering : Bool) (p : Ppu) :
    (p.advance d rendering).nmiOut = p.nmiOut := by
  obtain ⟨_, _, _, _, h⟩ := p.advance_frame d rendering
  rw [h]

/-- Dot 1 of a line is followed by dot 2. -/
theorem Ppu.advance_one (rendering : Bool) (p : Ppu) (h : p.dot = 1) : p.advance 1 rendering = { p with dot := 2 } := by
  unfold Ppu.advance
  simp [h]

/-- The dot (241, 1) does no pipeline work and shows no pixel. -/
theorem ppuDot_vblankStart (s : State) (hline : s.ppu.scanline = 241) (hdot : s.ppu.dot = 1) :
    ppuDot s = { s with ppu := { s.ppu.startVblank with dot := 2 } } := by
  have hwork : ppuDot s = (s.mapPpu Ppu.startVblank).mapPpu (Ppu.advance 1 s.ppu.rendering) := by
    unfold ppuDot
    rw [hline, hdot]
    rfl
  rw [hwork, ← Ppu.advance_one s.ppu.rendering s.ppu.startVblank hdot]
  rfl

/-- The dot (-1, 1) clears the flags; with rendering on, its pipeline work is one tile fetch. -/
theorem ppuDot_preRender_one (s : State) (hline : s.ppu.scanline = -1) (hdot : s.ppu.dot = 1) :
    ppuDot s = (applyWhen s.ppu.rendering (fun u => fetchTile (u.mapPpu Ppu.loadBg))
      (s.mapPpu Ppu.clearFlags)).mapPpu (Ppu.advance 1 s.ppu.rendering) := by
  unfold ppuDot
  rw [hline, hdot]
  rfl

theorem fetchTile_ppu (s : State) :
    (fetchTile s).ppu = { s.ppu with bgNt := (ppuRead s.ppu.tileAddr s).2 } := by
  unfold fetchTile
  rw [State.mapPpu_ppu, ppuRead_ppu]

/-- The tile fetch of the dot (-1, 1) moves no status flag and no NMI output. -/
theorem ppuDot_preRender_flags (s : State) (hline : s.ppu.scanline = -1) (hdot : s.ppu.dot = 1) :
    (ppuDot s).ppu.vblank = false ∧ (ppuDot s).ppu.sprite0Hit = false ∧
      (ppuDot s).ppu.spriteOverflow = false ∧ (ppuDot s).ppu.nmiOut = s.ppu.nmiOut := by
  rw [ppuDot_preRender_one s hline hdot]
  cases s.ppu.rendering with
  | false => simp [applyWhen, Ppu.clearFlags]
  | true => simp [applyWhen, fetchTile_ppu, Ppu.loadBg, Ppu.clearFlags]

/-- Settles O40: the two dots, and the PPUCTRL write in numbers. -/
theorem vblankAndNmiOutput : Obligations.VblankAndNmiOutput := by
  intro d s
  refine ⟨ppuDot_vblankStart s, ppuDot_preRender_flags s, ?_⟩
  rw [memWrite_ppuCtrl]
  refine ⟨rfl, congrArg (s.ppu.nmiOut || ·) (Bool.and_assoc ..).symm, ?_⟩
  rw [State.mapPpu_ppu, Ppu.writeCtrl_t]
  omega

/-! ## OAMADDR, OAMDATA and the write-only registers (R520, R523, R524) -/

/-- A bus read of a write-only register gives 0 and has no effect. -/
theorem memRead_ppuWriteOnly (a : Word) (s : State) (h : a ∈ ([0x2000, 0x2001, 0x2003, 0x2005, 0x2006] : List Word)) :
    memRead a s = (s, 0) := by
  simp only [List.mem_cons, List.not_mem_nil, or_false] at h
  obtain rfl | rfl | rfl | rfl | rfl := h <;> rfl

/-- Settles O36: each clause is the model's own case of the register. -/
theorem oamRegistersAndWriteOnlyReads : Obligations.OamRegistersAndWriteOnlyReads := by
  intro d s
  exact ⟨rfl, rfl, rfl, fun a h => memRead_ppuWriteOnly a s h⟩

end Sys2Proof.Machine
end

section
/-! PROOF. MMC3's scanline counter: one equation for a clock of the counter and one per case of the A12 edge filter
(64_cartridge_mappers.md R705, R740, R746 to R748). -/

namespace Sys2Proof.Machine

/-! ## A clock of the counter (R747) -/

/-- The counter's value after a clock: the latch at 0 or on request, else one less (R747). -/
def Mmc3.nextCounter (m : Mmc3) : Byte :=
  if m.irqCounter = 0 ∨ m.irqReload = true then m.irqLatch else m.irqCounter - 1

/-- A clock sets the counter, uses up the reload request, and raises the IRQ when the counter is then 0. -/
theorem Mmc3.clockCounter_eq (m : Mmc3) :
    m.clockCounter =
      { m with
        irqCounter := m.nextCounter
        irqReload := false
        irqPending := m.irqPending || (decide (m.nextCounter = 0) && m.irqEnable) } := by
  have hcount : (if m.irqCounter = 0 ∨ m.irqReload = true then { m with irqCounter := m.irqLatch, irqReload := false }
      else { m with irqCounter := m.irqCounter - 1 }) = { m with irqCounter := m.nextCounter, irqReload := false } := by
    unfold Mmc3.nextCounter
    split
    · rfl
    · next h =>
      have hreload : m.irqReload = false := Bool.eq_false_iff.mpr fun hr => h (.inr hr)
      rw [← hreload]
  unfold Mmc3.clockCounter
  simp only [hcount]
  split
  · next h =>
    obtain ⟨hzero, henable⟩ := h
    simp [hzero, henable]
  · next h =>
    have hquiet : (decide (m.nextCounter = 0) && m.irqEnable) = false := by simpa using h
    rw [hquiet, Bool.or_false]

/-! ## The A12 edge filter (R705, R748) -/

/-- With A12 low only the edge filter's memory of it moves. -/
theorem Mmc3.observe_low (debounce : Nat) (m : Mmc3) (a : Word) (h : a.getLsbD 12 = false) :
    m.observe debounce a = { m with a12Last := false } := by
  rw [Mmc3.observe, h]
  rfl

/-- A rise of A12 after the debounce clocks the counter. -/
theorem Mmc3.observe_rise (debounce : Nat) (m : Mmc3) (a : Word) (h : a.getLsbD 12 = true)
    (hlast : m.a12Last = false) (hlow : debounce ≤ m.a12Low) :
    m.observe debounce a = { m.clockCounter with a12Last := true, a12Low := 0 } := by
  rw [Mmc3.observe, if_pos h, if_pos ⟨hlast, hlow⟩]

/-- A12 seen high again, or too soon after it fell, does not clock the counter. -/
theorem Mmc3.observe_high (debounce : Nat) (m : Mmc3) (a : Word) (h : a.getLsbD 12 = true)
    (hfilter : ¬ (m.a12Last = false ∧ debounce ≤ m.a12Low)) :
    m.observe debounce a = { m with a12Last := true, a12Low := 0 } := by
  rw [Mmc3.observe, if_pos h, if_neg hfilter]

/-- A CPU cycle of mapper time counts while A12 was last seen low. -/
theorem Mapper.clock_mmc3 (m : Mmc3) :
    (Mapper.mmc3 m).clock = .mmc3 { m with a12Low := if m.a12Last then m.a12Low else m.a12Low + 1 } := by
  rw [Mapper.clock]
  split <;> rfl

/-! ## The IRQ registers (R740) -/

/-- A write to an even address from $E000 on disables and acknowledges. -/
theorem Mmc3.write_irqDisable (m : Mmc3) (a : Word) (v : Byte) (hrange : 0xE000 ≤ a.toNat) (heven : a.toNat % 2 = 0) :
    m.write a v = { m with irqEnable := false, irqPending := false } := by
  have hslot : (a.extractLsb' 13 2).toNat = 3 := by
    rw [BitVec.extractLsb'_toNat, Nat.shiftRight_eq_div_pow]
    have := a.isLt
    omega
  have hodd : a.getLsbD 0 = false := by
    rw [BitVec.getLsbD, Nat.testBit_zero, heven]
    rfl
  rw [Mmc3.write, hslot, hodd]
  rfl

/-- Settles O53: the cases of the edge filter, with the clock of the counter in the one that lets a rise through. -/
theorem mmc3ScanlineCounter : Obligations.Mmc3ScanlineCounter := by
  intro debounce m a v clocked counter
  refine ⟨?_, m.write_irqDisable a v, Mapper.clock_mmc3 m, rfl⟩
  cases ha : a.getLsbD 12 with
  | false =>
    have hclocked : clocked = false := by simp only [clocked, ha, Bool.false_and]
    rw [m.observe_low debounce a ha, hclocked]
    simp
  | true =>
    by_cases hfilter : m.a12Last = false ∧ debounce ≤ m.a12Low
    · obtain ⟨hlast, hlow⟩ := hfilter
      have hclocked : clocked = true := by simp [clocked, ha, hlast, hlow]
      rw [m.observe_rise debounce a ha hlast hlow, m.clockCounter_eq, hclocked]
      rfl
    · have hclocked : clocked = false := by simpa [clocked, ha] using hfilter
      rw [m.observe_high debounce a ha hfilter, hclocked]
      simp

end Sys2Proof.Machine
end

section
/-! PROOF. The decoder and the encoder undo each other: lookups in the two tables by the nibbles of the opcode, the
round trip of every constructor and of every opcode (30_encoding.md R150 to R160). -/

namespace Sys2Proof.Machine

theorem loByte_mkWord (hi lo : Byte) : loByte (mkWord hi lo) = lo := by
  have := lo.isLt
  apply BitVec.eq_of_toNat_eq
  rw [loByte_toNat, mkWord_toNat]
  omega

theorem hiByte_mkWord (hi lo : Byte) : hiByte (mkWord hi lo) = hi := by
  have := lo.isLt
  apply BitVec.eq_of_toNat_eq
  rw [hiByte_toNat, mkWord_toNat]
  omega

/-- A lookup in sixteen-entry blocks written one after the other: the block by the quotient, the entry by the
remainder. -/
theorem getD_flatten_blocks {α : Type} (blocks : List (List α)) (h : ∀ b ∈ blocks, b.length = 16) (n : Nat)
    (d : α) :
    blocks.flatten.getD n d = (blocks.getD (n / 16) []).getD (n % 16) d := by
  induction blocks generalizing n with
  | nil => simp
  | cons b rest ih =>
    have hb : b.length = 16 := h b (by simp)
    have hrest : ∀ b ∈ rest, b.length = 16 := fun b hm => h b (by simp [hm])
    rw [List.flatten_cons]
    by_cases hn : n < 16
    · rw [List.getD_append _ _ _ _ (by omega), Nat.div_eq_of_lt hn, Nat.mod_eq_of_lt hn]
      rfl
    · obtain ⟨m, rfl⟩ : ∃ m, n = m + 16 := ⟨n - 16, by omega⟩
      rw [List.getD_append_right _ _ _ _ (by omega), hb, Nat.add_sub_cancel, ih hrest, Nat.add_div_right _ (by decide),
        Nat.add_mod_right]
      rfl

/-- The blocks of the instruction table, one for each high nibble. -/
def instrBlocks : List (List (Byte → Byte → Instr)) :=
  [instrs0, instrs1, instrs2, instrs3, instrs4, instrs5, instrs6, instrs7, instrs8, instrs9, instrsA, instrsB,
    instrsC, instrsD, instrsE, instrsF]

/-- The blocks of the opcode table, one for each high nibble. -/
def opcodeBlocks : List (List OpcodeRow) :=
  [opcodeRows0, opcodeRows1, opcodeRows2, opcodeRows3, opcodeRows4, opcodeRows5, opcodeRows6, opcodeRows7,
    opcodeRows8, opcodeRows9, opcodeRowsA, opcodeRowsB, opcodeRowsC, opcodeRowsD, opcodeRowsE, opcodeRowsF]

theorem instrTable_eq_flatten : instrTable = instrBlocks.flatten := by
  simp only [instrTable, instrBlocks, List.flatten_cons, List.flatten_nil, List.append_nil, List.append_assoc]

theorem opcodeTable_eq_flatten : opcodeTable = opcodeBlocks.flatten := by
  simp only [opcodeTable, opcodeBlocks, List.flatten_cons, List.flatten_nil, List.append_nil, List.append_assoc]

/-- The instruction of an opcode, by its two nibbles. -/
theorem instrOf_nibbles (op b1 b2 : Byte) :
    instrOf op b1 b2 =
      (instrBlocks.getD (op.toNat / 16) []).getD (op.toNat % 16) (fun _ _ => .nop) b1 b2 := by
  rw [← getD_flatten_blocks instrBlocks (by simp [instrBlocks]; decide), ← instrTable_eq_flatten]
  rfl

/-- The row of an opcode, by its two nibbles. -/
theorem opcodeRow_nibbles (op : Byte) :
    opcodeRow op = (opcodeBlocks.getD (op.toNat / 16) []).getD (op.toNat % 16) ⟨.nop, .imp, 2, false⟩ := by
  rw [← getD_flatten_blocks opcodeBlocks (by decide), ← opcodeTable_eq_flatten]
  rfl
/-- The table entry of an instruction's opcode restores it; a word operand is joined again from its two bytes. -/
theorem instrOf_operands (i : Instr) : instrOf i.opcode i.operand1 i.operand2 = i := by
  rw [instrOf_nibbles]
  cases i <;> dsimp only [Instr.opcode, encode, List.headD_cons] <;>
    first | rfl | exact congrArg _ (mkWord_hiByte_loByte _)

theorem encode_eq_take (i : Instr) : encode i = [i.opcode, i.operand1, i.operand2].take i.length := by
  unfold Instr.length Instr.mode Instr.row
  rw [opcodeRow_nibbles]
  cases i <;> dsimp only [Instr.opcode, encode, List.headD_cons] <;> rfl

/-- The entry of an opcode is encoded by that opcode and the operand bytes of its mode; a word operand is cut into its
two bytes again. -/
theorem encode_instrOf (op b1 b2 : Byte) :
    encode (instrOf op b1 b2) = [op, b1, b2].take ((opcodeRow op).mode.operandBytes + 1) := by
  have hword : [loByte (mkWord b2 b1), hiByte (mkWord b2 b1)] = [b1, b2] := by rw [loByte_mkWord, hiByte_mkWord]
  obtain ⟨n, hn, rfl⟩ : ∃ n < 256, op = BitVec.ofNat 8 n := ⟨op.toNat, op.isLt, by simp⟩
  rw [instrOf_nibbles, opcodeRow_nibbles, BitVec.toNat_ofNat, Nat.mod_eq_of_lt hn]
  interval_cases n <;> first | rfl | exact congrArg (List.cons _) hword

theorem opcode_instrOf (op b1 b2 : Byte) : (instrOf op b1 b2).opcode = op := by
  unfold Instr.opcode
  rw [encode_instrOf]
  rfl

theorem operandBytes_le (m : Mode) : m.operandBytes ≤ 2 := by
  cases m <;> decide

/-! ## The decoder, by the operand bytes of the opcode's mode (R152, R157) -/

theorem decode_noOperand (op : Byte) (rest : List Byte) (h : (opcodeRow op).mode.operandBytes = 0) :
    decode (op :: rest) = .ok (instrOf op 0 0, rest) := by
  simp only [decode, h]

theorem decode_byteOperand (op b1 : Byte) (rest : List Byte) (h : (opcodeRow op).mode.operandBytes = 1) :
    decode (op :: b1 :: rest) = .ok (instrOf op b1 0, rest) := by
  simp only [decode, h]

theorem decode_wordOperand (op b1 b2 : Byte) (rest : List Byte) (h : (opcodeRow op).mode.operandBytes = 2) :
    decode (op :: b1 :: b2 :: rest) = .ok (instrOf op b1 b2, rest) := by
  simp only [decode, h]

/-- The decoder undoes the encoder: the encoding lists the operand bytes of the mode, and the others are 0. -/
theorem decode_encode_append (i : Instr) (rest : List Byte) : decode (encode i ++ rest) = .ok (i, rest) := by
  have henc := encode_eq_take i
  have hlookup := instrOf_operands i
  have h1 : i.operand1 = (encode i).getD 1 0 := rfl
  have h2 : i.operand2 = (encode i).getD 2 0 := rfl
  have hle := operandBytes_le i.mode
  unfold Instr.length at henc
  obtain h | h | h : i.mode.operandBytes = 0 ∨ i.mode.operandBytes = 1 ∨ i.mode.operandBytes = 2 := by omega
  · replace henc : encode i = [i.opcode] := by rw [henc, h]; rfl
    rw [henc] at h1 h2
    rw [h1, h2] at hlookup
    rw [henc]
    exact (decode_noOperand i.opcode rest h).trans (congrArg (fun j => Except.ok (j, rest)) hlookup)
  · replace henc : encode i = [i.opcode, i.operand1] := by rw [henc, h]; rfl
    rw [henc] at h2
    rw [h2] at hlookup
    rw [henc]
    exact (decode_byteOperand i.opcode i.operand1 rest h).trans (congrArg (fun j => Except.ok (j, rest)) hlookup)
  · replace henc : encode i = [i.opcode, i.operand1, i.operand2] := by rw [henc, h]; rfl
    rw [henc]
    exact (decode_wordOperand i.opcode i.operand1 i.operand2 rest h).trans (by rw [hlookup])

/-- Settles O1. -/
theorem decodeOfEncodeGivesTheInstruction : Obligations.DecodeOfEncodeGivesTheInstruction := decode_encode_append

/-- Settles O2: the table entry of the opcode is the instruction, and decoding undoes its encoding. -/
theorem everyOpcodeDecodesAndEncodesBack : Obligations.EveryOpcodeDecodesAndEncodesBack := by
  intro op b1 b2 rest
  have hop := opcode_instrOf op b1 b2
  have hlen : (instrOf op b1 b2).length = (opcodeRow op).mode.operandBytes + 1 := by
    unfold Instr.length Instr.mode Instr.row
    rw [hop]
  have htake : encode (instrOf op b1 b2) = (op :: b1 :: b2 :: rest).take (instrOf op b1 b2).length := by
    rw [encode_instrOf, hlen]
    have := operandBytes_le (opcodeRow op).mode
    exact (List.take_append_of_le_length (l₁ := [op, b1, b2]) (Nat.succ_le_succ this)).symm
  refine ⟨instrOf op b1 b2, ?_, htake, hop⟩
  have h := decode_encode_append (instrOf op b1 b2) ((op :: b1 :: b2 :: rest).drop (instrOf op b1 b2).length)
  rwa [htake, List.take_append_drop] at h

/-- Settles O3: the table is looked up at ten opcodes. -/
theorem writtenOutWordsDecode : Obligations.WrittenOutWordsDecode :=
  ⟨rfl, rfl, rfl, rfl, rfl, rfl, rfl, rfl, rfl, rfl⟩

end Sys2Proof.Machine
end

section
/-! PROOF. What the CPU's part of a step can do outside its registers: a relation that register changes, bus reads and
bus writes keep is kept by every operation, instruction, fetch and interrupt entry, and by a step when the PPU dot and
the devices' clocks keep it too (40_addressing.md R180, 60_exceptions.md R404, 61_bus_clocking.md R451). -/

namespace Sys2Proof.Machine

/-- A relation that every part of the CPU's work keeps. -/
structure BusWork (r : State → State → Prop) : Prop where
  refl : ∀ s, r s s
  trans : ∀ {s t u}, r s t → r t u → r s u
  withCpu : ∀ s c, r s (s.withCpu c)
  read : ∀ a s, r s (memRead a s).1
  write : ∀ a v s, r s (memWrite a v s)

variable {r : State → State → Prop}

/-- A change of the CPU registers alone. -/
theorem BusWork.cpuOnly (h : BusWork r) {s t : State} (ht : t = s.withCpu t.cpu) : r s t :=
  ht ▸ h.withCpu s t.cpu

theorem BusWork.zpRead16 (h : BusWork r) (z : Byte) (s : State) : r s (zpRead16 z s).1 :=
  h.trans (h.read _ s) (h.read _ _)

/-- The addressing modes (R181 to R193). -/
theorem BusWork.access (h : BusWork r) (m : Mode) (b1 b2 : Byte) (s : State) :
    r s (access m b1 b2 s).state := by
  cases m with
  | ind => exact h.trans (h.trans (h.read _ s) (h.read _ _)) (h.cpuOnly rfl)
  | izx | izy => exact h.trans (h.zpRead16 _ s) (h.cpuOnly rfl)
  | imp | acc | imm | zp | zpx | zpy | abs | abx | aby | rel => exact h.cpuOnly rfl

/-- The data read (R196). -/
theorem BusWork.load (h : BusWork r) (o : Operand) (s : State) : r s (load o s).1 := by
  cases o with
  | accumulator | immediate => exact h.cpuOnly rfl
  | memory => exact h.trans (h.read _ s) (h.cpuOnly rfl)

/-- The data write (R196). -/
theorem BusWork.store (h : BusWork r) (o : Operand) (v : Byte) (s : State) : r s (store o v s) := by
  cases o with
  | accumulator => exact h.cpuOnly rfl
  | immediate | memory => exact h.write _ v s

theorem BusWork.push (h : BusWork r) (v : Byte) (s : State) : r s (push v s) :=
  h.trans (h.write _ v s) (h.cpuOnly rfl)

theorem BusWork.pull (h : BusWork r) (s : State) : r s (pull s).1 :=
  h.trans (h.cpuOnly rfl) (h.read _ _)

theorem BusWork.pushWord (h : BusWork r) (w : Word) (s : State) : r s (pushWord w s) :=
  h.trans (h.push _ s) (h.push _ _)

theorem BusWork.pullWord (h : BusWork r) (s : State) : r s (pullWord s).1 :=
  h.trans (h.pull s) (h.pull _)

theorem BusWork.read16 (h : BusWork r) (a : Word) (s : State) : r s (memRead16 a s).1 :=
  h.trans (h.read a s) (h.read (a + 1) _)

theorem BusWork.setP (h : BusWork r) (p : Byte) (s : State) : r s (s.setP p) := h.cpuOnly rfl

theorem BusWork.setPc (h : BusWork r) (pc : Word) (s : State) : r s (s.setPc pc) := h.cpuOnly rfl

/-- The interrupt entry (R410). -/
theorem BusWork.interrupt (h : BusWork r) (vector : Word) (b : Bool) (s : State) :
    r s (interrupt vector b s) := by
  have hpush := h.trans (h.pushWord s.cpu.pc s) (h.push (pushedP b s.cpu.p) (Machine.pushWord s.cpu.pc s))
  unfold Machine.interrupt
  generalize Machine.push (pushedP b s.cpu.p) (Machine.pushWord s.cpu.pc s) = u at hpush
  exact h.trans hpush (h.trans (h.setP (withI u.cpu.p) u) (h.trans (h.read16 vector _) (h.setPc _ _)))

/-- The return from an interrupt (R412). -/
theorem BusWork.returnFromInterrupt (h : BusWork r) (s : State) : r s (returnFromInterrupt s) := by
  have hpull := h.pull s
  unfold Machine.returnFromInterrupt
  generalize Machine.pull s = u at hpull
  exact h.trans hpull (h.trans (h.setP (pulledP u.2) u.1) (h.trans (h.pullWord _) (h.setPc _ _)))

/-- The operation of every mnemonic. -/
theorem BusWork.operation (h : BusWork r) (o : Operation) (opd : Operand) (s : State) :
    r s (operationOf o opd s) := by
  cases o with
  | lda | ldx | ldy | lax | adc | sbc | and | ora | eor | bit | cmp | cpx | cpy | anc | alr | arr =>
    exact h.trans (h.load opd s) (h.cpuOnly rfl)
  | sta | stx | sty | sax => exact h.store opd _ s
  | asl | lsr | rol | ror | slo | rla | sre | rra | inc | dec | dcp | isc =>
    exact h.trans (h.load opd s) (h.trans (h.cpuOnly rfl) (h.trans (h.store opd _ _) (h.cpuOnly rfl)))
  | pha | php => exact h.push _ s
  | pla | plp => exact h.trans (h.pull s) (h.cpuOnly rfl)
  | jsr => exact h.trans (h.pushWord _ s) (h.cpuOnly rfl)
  | rts => exact h.trans (h.pullWord s) (h.cpuOnly rfl)
  | rti => exact h.returnFromInterrupt s
  | brk => exact h.trans (h.setPc _ s) (h.interrupt irqVector true _)
  | tax | tay | txa | tya | tsx | txs | inx | iny | dex | dey | clc | sec | cli | sei | clv | cld | sed | jmp =>
    exact h.cpuOnly rfl
  | nop | xaa | lxa | jam | sha | tas | shy | shx | las | sbx | usbc | bpl | bmi | bvc | bvs | bcc | bcs | bne | beq =>
    exact h.refl s

/-! ## Instructions, fetch and boundary -/

/-- The work of an instruction that is no branch. -/
theorem BusWork.instrWork (h : BusWork r) (i : Instr) (opd : Operand) (s : State) : r s (instrWork i opd s) := by
  unfold Machine.instrWork
  split
  · exact h.load opd s
  · exact h.operation i.operation opd s

/-- The next state of a branch (R306). -/
theorem exec_branch_next (i : Instr) (s : State) (hm : i.mode = .rel) :
    exec i s =
      let u := (s.setDmaStall 0).setAddrRel (sext16 i.operand1)
      let b := branch (branchTest i.operation u) u
      .next (finishCycles (2 + b.2) b.1) :=
  exec_branch_eq i s hm

/-- A branch changes at most PC. -/
theorem branch_cpuOnly (c : Bool) (s : State) : (branch c s).1 = s.withCpu (branch c s).1.cpu := by
  cases c <;> rfl

/-- Every instruction completes: no access fails and no opcode is illegal (R400, R107). -/
theorem exec_completes (i : Instr) (s : State) : ∃ t, exec i s = .next t := by
  by_cases hm : i.mode = .rel
  · exact ⟨_, exec_branch_next i s hm⟩
  · exact ⟨_, exec_next i s hm⟩

theorem BusWork.exec (h : BusWork r) (i : Instr) (s t : State) (ht : exec i s = .next t) : r s t := by
  by_cases hm : i.mode = .rel
  · rw [exec_branch_next i s hm] at ht
    obtain rfl := Host.Outcome.next.inj ht
    have hrel : r s ((s.setDmaStall 0).setAddrRel (sext16 i.operand1)) := h.cpuOnly rfl
    exact h.trans hrel (h.trans (h.cpuOnly (branch_cpuOnly (branchTest i.operation _) _)) (h.cpuOnly rfl))
  · rw [exec_next i s hm] at ht
    obtain rfl := Host.Outcome.next.inj ht
    have haccess : r s (i.accessIn s).state :=
      h.trans (h.cpuOnly (t := s.setDmaStall 0) rfl) (h.access i.mode i.operand1 i.operand2 _)
    exact h.trans haccess (h.trans (h.instrWork i _ _) (h.cpuOnly rfl))

theorem BusWork.fetchByte (h : BusWork r) (s : State) : r s (fetchByte s).1 :=
  h.trans (h.read _ s) (h.cpuOnly rfl)

/-- The fetch: the opcode, then up to two operand bytes (R152). -/
theorem BusWork.fetch (h : BusWork r) (s : State) : r s (fetch s).1 := by
  have hop := h.trans (h.fetchByte s) (h.cpuOnly (t := (Machine.fetchByte s).1.setOpcode (Machine.fetchByte s).2) rfl)
  unfold Machine.fetch
  dsimp only
  split
  · exact hop
  · exact h.trans hop (h.fetchByte _)
  · exact h.trans hop (h.trans (h.fetchByte _) (h.fetchByte _))

/-- An instruction boundary completes and keeps the relation: an interrupt entry or an instruction (R404). -/
theorem BusWork.boundary (h : BusWork r) (s : State) : ∃ t, boundary s = .next t ∧ r s t := by
  obtain ⟨-, hb⟩ | ⟨-, -, hb⟩ | ⟨-, -, hb⟩ := boundary_cases s
  · exact ⟨_, hb, h.trans (h.cpuOnly rfl) (h.trans (h.interrupt _ _ _) (h.cpuOnly rfl))⟩
  · exact ⟨_, hb, h.trans (h.interrupt _ _ _) (h.cpuOnly rfl)⟩
  · obtain ⟨t, ht⟩ := exec_completes (Machine.fetch s).2 (Machine.fetch s).1
    exact ⟨t, hb.trans ht, h.trans (h.fetch s) (h.exec _ _ t ht)⟩

/-! ## The step -/

/-- A relation that every part of a step keeps. -/
structure StepWork (r : State → State → Prop) : Prop extends BusWork r where
  dot : ∀ s, r s (ppuDot s)
  apu : ∀ s, r s (s.mapApu (Apu.clock s.config.apuFrameScale))
  dmcByte : ∀ b s, r s (s.mapApu (dmcReceive b))
  mapper : ∀ s, r s (mapperClock s)
  nmiTaken : ∀ s, r s (s.mapPpu fun p => { p with nmiOut := false })
  count : ∀ s, r s (countDot s)

/-- The devices of a CPU cycle (R451). -/
theorem StepWork.clockDevices (h : StepWork r) (s : State) : r s (clockDevices s) := by
  have hdmc (u : State) : r u (dmcFill u) := by
    unfold dmcFill
    split
    · exact h.trans (h.read _ u) (h.dmcByte _ _)
    · exact h.refl u
  have hnmi (u : State) : r u (nmiSample u) := by
    unfold nmiSample
    split
    · exact h.trans (h.cpuOnly rfl) (h.nmiTaken (u.setNmiPending true))
    · exact h.refl u
  have hapu := h.trans (h.apu s) (hdmc _)
  exact h.trans hapu (h.trans (h.mapper _) (h.trans (hnmi _) (h.cpuOnly rfl)))

/-- Every step completes and keeps the relation. -/
theorem StepWork.step (h : StepWork r) (s : State) : ∃ t, step s = .next t ∧ r s t := by
  have hclock := h.trans (h.dot s) (h.clockDevices (ppuDot s))
  obtain ⟨-, hs⟩ | ⟨-, -, hs⟩ | ⟨-, -, o, ho, hs⟩ := step_cases s
  · exact ⟨_, hs, h.trans (h.dot s) (h.count _)⟩
  · exact ⟨_, hs, h.trans hclock (h.trans (h.cpuOnly rfl) (h.count (countClock _)))⟩
  · obtain ⟨t, ht, hr⟩ := h.boundary (Machine.clockDevices (ppuDot s))
    rw [← ho, ht] at hs
    exact ⟨_, hs, h.trans hclock (h.trans hr (h.trans (h.cpuOnly rfl) (h.count (closeBoundary t))))⟩

theorem StepWork.of_step (h : StepWork r) {s t : State} (ht : Machine.step s = .next t) : r s t := by
  obtain ⟨u, hu, hr⟩ := h.step s
  obtain rfl := Host.Outcome.next.inj (hu.symm.trans ht)
  exact hr

/-! ## Nothing stops (R400) -/

/-- The relation that holds of any two states asks for nothing but completion. -/
theorem stepWork_true : StepWork fun _ _ => True := by
  refine ⟨⟨?_, ?_, ?_, ?_, ?_⟩, ?_, ?_, ?_, ?_, ?_, ?_⟩ <;> intros <;> trivial

theorem run_completes (n : Nat) (s : State) : SafeFor n s := by
  induction n generalizing s with
  | zero => exact ⟨s, rfl⟩
  | succ n ih =>
    obtain ⟨t, ht, -⟩ := stepWork_true.step s
    obtain ⟨u, hu⟩ := ih t
    exact ⟨u, by rw [run, ht]; exact hu⟩

/-- Settles O7. -/
theorem nothingEverStops : Obligations.NothingEverStops :=
  ⟨exec_completes, fun s => (stepWork_true.step s).imp fun _ h => h.1, run_completes⟩

end Sys2Proof.Machine
end

section
/-! PROOF. The PPU address space and the banking of the cartridge: one equation per region for the PPU bus read and
write, the indices in integer arithmetic with their bounds (62_ppu.md R512 to R515, 64_cartridge_mappers.md R701 to
R745). -/

namespace Sys2Proof.Machine

/-! ## Masks and fields in numbers -/

theorem toNat_and_lowMask {n : Nat} (x mask : BitVec n) (k : Nat) (h : mask.toNat = 2 ^ k - 1) :
    (x &&& mask).toNat = x.toNat % 2 ^ k := by
  rw [BitVec.toNat_and, h, Nat.and_two_pow_sub_one_eq_mod]

theorem toNat_extract {n : Nat} (x : BitVec n) (k m : Nat) :
    (x.extractLsb' k m).toNat = x.toNat / 2 ^ k % 2 ^ m := by
  rw [BitVec.extractLsb'_toNat, Nat.shiftRight_eq_div_pow]

/-- The address that the 14-bit bus carries (R512). -/
theorem busAddr_toNat (a : Word) : (a &&& 0x3FFF).toNat = a.toNat % 0x4000 :=
  toNat_and_lowMask a 0x3FFF 14 rfl

theorem busAddr_eq (a : Word) : a &&& 0x3FFF = BitVec.ofNat 16 (a.toNat % 0x4000) := by
  rw [← busAddr_toNat, BitVec.ofNat_toNat, BitVec.setWidth_eq]

/-! ## An observation of the PPU bus leaves the banking alone (R706, R748) -/

/-- The edge filter and the counter keep the bank and mirroring registers. -/
theorem Mmc3.observe_registers (debounce : Nat) (m : Mmc3) (a : Word) :
    (m.observe debounce a).bankSelect = m.bankSelect ∧ (m.observe debounce a).r = m.r ∧
      (m.observe debounce a).mirroring = m.mirroring := by
  cases h : a.getLsbD 12 with
  | false =>
    rw [m.observe_low debounce a h]
    exact ⟨rfl, rfl, rfl⟩
  | true =>
    by_cases hf : m.a12Last = false ∧ debounce ≤ m.a12Low
    · rw [m.observe_rise debounce a h hf.1 hf.2, m.clockCounter_eq]
      exact ⟨rfl, rfl, rfl⟩
    · rw [m.observe_high debounce a h hf]
      exact ⟨rfl, rfl, rfl⟩

/-- A cartridge after its mapper observed a PPU access. -/
def Cart.observed (debounce : Nat) (a : Word) (c : Cart) : Cart := { c with mapper := c.mapper.observe debounce a }

theorem mapperObserve_eq (a : Word) (s : State) :
    mapperObserve a s = s.mapCart (Cart.observed s.config.mmc3A12Debounce a) := rfl

theorem Cart.chrIndex_observed (debounce : Nat) (b : Word) (c : Cart) (a : Word) :
    (c.observed debounce b).chrIndex a = c.chrIndex a := by
  unfold Cart.observed Cart.chrIndex
  cases c.mapper with
  | mmc3 m =>
    obtain ⟨hb, hr, -⟩ := m.observe_registers debounce b
    simp only [Mapper.observe, Mmc3.chrBank, hb, hr]
    rfl
  | nrom | mmc1 | uxrom | cnrom => rfl

theorem Cart.mirroring_observed (debounce : Nat) (b : Word) (c : Cart) :
    (c.observed debounce b).mirroring = c.mirroring := by
  unfold Cart.observed Cart.mirroring
  cases c.mapper with
  | mmc3 m =>
    obtain ⟨-, -, hm⟩ := m.observe_registers debounce b
    simp only [Mapper.observe, hm]
  | nrom | mmc1 | uxrom | cnrom => rfl

theorem mirroring_mapperObserve (a : Word) (s : State) : (mapperObserve a s).mirroring = s.mirroring := by
  rw [mapperObserve_eq]
  unfold State.mirroring State.mapCart
  cases hc : s.cart with
  | none => rfl
  | some c => exact c.mirroring_observed _ a

/-! ## The indices (R514, R515) -/

/-- The place of a nametable address in `vram`. -/
theorem ntIndex_busAddr (mode : Mirroring) (a : Word) (h : 0x2000 ≤ a.toNat % 0x4000) :
    ntIndex mode (a &&& 0x3FFF) =
      nametableBase mode ((a.toNat % 0x4000 - 0x2000) % 0x1000 / 0x400) +
        (a.toNat % 0x4000 - 0x2000) % 0x1000 % 0x400 := by
  have ha := busAddr_toNat a
  have hsub : ((a &&& 0x3FFF) - 0x2000).toNat = a.toNat % 0x4000 - 0x2000 := by bv_omega
  unfold ntIndex
  rw [toNat_and_lowMask _ 0x0FFF 12 rfl, hsub]
  rfl

/-- The place of a palette address in the palette. -/
theorem palIndex_busAddr (a : Word) :
    palIndex (a &&& 0x3FFF) =
      (let m := a.toNat % 0x4000 % 0x20
       if m = 0x10 ∨ m = 0x14 ∨ m = 0x18 ∨ m = 0x1C then m - 0x10 else m) := by
  unfold palIndex
  rw [toNat_and_lowMask _ 0x1F 5 rfl, busAddr_toNat]
  rfl

theorem nametableBase_le (mode : Mirroring) (n : Nat) (h : n < 4) : nametableBase mode n ≤ 0xC00 := by
  interval_cases n <;> cases mode <;> decide

theorem ntIndex_lt (mode : Mirroring) (a : Word) : ntIndex mode a < 4096 := by
  have h := toNat_and_lowMask (a - 0x2000) 0x0FFF 12 rfl
  have hbase := nametableBase_le mode (((a - 0x2000) &&& 0x0FFF).toNat / 0x400) (by omega)
  unfold ntIndex
  dsimp only
  omega

theorem palIndex_lt (a : Word) : palIndex a < 32 := by
  have h := toNat_and_lowMask a 0x1F 5 rfl
  unfold palIndex
  dsimp only
  split <;> omega

/-! ## The PPU bus, region by region (R512, R513) -/

/-- The byte that the cartridge puts on the PPU bus, 0 with none loaded. -/
def State.patternByte (s : State) (a : Word) : Byte :=
  match s.cart with
  | none => 0
  | some c => c.chr.read (c.chrIndex a)

theorem ppuRead_pattern (a : Word) (s : State) (h : a.toNat % 0x4000 < 0x2000) :
    ppuRead a s = (mapperObserve (a &&& 0x3FFF) s, s.patternByte (a &&& 0x3FFF)) := by
  have ha := busAddr_toNat a
  unfold ppuRead
  dsimp only
  rw [if_pos (by omega), if_pos (by omega), mapperObserve_eq, State.mapCart_cart]
  unfold State.patternByte
  cases hc : s.cart with
  | none => rfl
  | some c => exact Prod.ext rfl (congrArg c.chr.read (c.chrIndex_observed _ _ _))

theorem ppuRead_nametable (a : Word) (s : State) (hlo : 0x2000 ≤ a.toNat % 0x4000)
    (hhi : a.toNat % 0x4000 < 0x3F00) :
    ppuRead a s = (mapperObserve (a &&& 0x3FFF) s, s.byteAt .vram (ntIndex s.mirroring (a &&& 0x3FFF))) := by
  have ha := busAddr_toNat a
  unfold ppuRead
  dsimp only
  rw [if_pos (by omega), if_neg (by omega), mirroring_mapperObserve]
  rfl

theorem ppuRead_palette (a : Word) (s : State) (h : 0x3F00 ≤ a.toNat % 0x4000) :
    ppuRead a s = (s, s.byteAt .palette (palIndex (a &&& 0x3FFF))) := by
  have ha := busAddr_toNat a
  unfold ppuRead
  dsimp only
  rw [if_neg (by omega)]
  rfl

theorem ppuWrite_pattern (a : Word) (v : Byte) (s : State) (h : a.toNat % 0x4000 < 0x2000) :
    ppuWrite a v s = (mapperObserve (a &&& 0x3FFF) s).mapCart fun c => c.ppuWrite (a &&& 0x3FFF) v := by
  have ha := busAddr_toNat a
  unfold ppuWrite
  dsimp only
  rw [if_pos (by omega), if_pos (by omega)]

theorem ppuWrite_nametable (a : Word) (v : Byte) (s : State) (hlo : 0x2000 ≤ a.toNat % 0x4000)
    (hhi : a.toNat % 0x4000 < 0x3F00) :
    ppuWrite a v s = (mapperObserve (a &&& 0x3FFF) s).mapPpu fun p =>
      { p with vram := p.vram.write (ntIndex s.mirroring (a &&& 0x3FFF)) v } := by
  have ha := busAddr_toNat a
  unfold ppuWrite
  dsimp only
  rw [if_pos (by omega), if_neg (by omega), mirroring_mapperObserve]

theorem ppuWrite_palette (a : Word) (v : Byte) (s : State) (h : 0x3F00 ≤ a.toNat % 0x4000) :
    ppuWrite a v s = s.mapPpu fun p => { p with palette := p.palette.write (palIndex (a &&& 0x3FFF)) v } := by
  have ha := busAddr_toNat a
  unfold ppuWrite
  dsimp only
  rw [if_neg (by omega)]

/-- A PPU bus read changes no byte of any memory. -/
theorem ppuRead_bytes (a : Word) (s : State) : SameBytes s (ppuRead a s).1 := by
  obtain h | h := ppuRead_state a s <;> rw [h]
  · exact SameBytes.refl s
  · exact SameBytes.of_memories (mapperObserve_memoryOf _ s)

/-- A PPU bus read changes the cartridge's mapper at most. -/
theorem ppuRead_cartOnly (a : Word) (s : State) : (ppuRead a s).1 = { s with cart := (ppuRead a s).1.cart } := by
  obtain h | h := ppuRead_state a s <;> rw [h]
  rfl

/-- The bytes after one cell of `vram` is written. -/
theorem bytes_vramWrite (s : State) (k : Nat) (v : Byte) (h : s.ppu.vram.wf = true) :
    SameBytesBut s (s.mapPpu fun p => { p with vram := p.vram.write k v }) (some (.vram, k)) v := by
  intro m j
  cases m with
  | vram => simp [State.byteAt, State.memoryOf, Memory.read_write _ _ _ _ h, eq_comm]
  | _ => rw [if_neg (by simp)]; rfl

/-- The bytes after one entry of the palette is written. -/
theorem bytes_paletteWrite (s : State) (k : Nat) (v : Byte) (h : s.ppu.palette.wf = true) :
    SameBytesBut s (s.mapPpu fun p => { p with palette := p.palette.write k v }) (some (.palette, k)) v := by
  intro m j
  cases m with
  | palette => simp [State.byteAt, State.memoryOf, Memory.read_write _ _ _ _ h, eq_comm]
  | _ => rw [if_neg (by simp)]; rfl

/-- Settles O39: each clause is the equation of its region. -/
theorem ppuAddressSpace : Obligations.PpuAddressSpace := by
  refine ⟨?_, rfl, rfl, rfl, rfl, rfl⟩
  intro a s p m o inVram inPalette
  have hnt (h : 0x2000 ≤ p) : ntIndex s.mirroring (a &&& 0x3FFF) = inVram := ntIndex_busAddr s.mirroring a h
  have hpal : palIndex (a &&& 0x3FFF) = inPalette := palIndex_busAddr a
  refine ⟨fun h => ?_, fun hlo hhi => ?_, fun h => ?_, ppuRead_bytes a s, ppuRead_cartOnly a s, fun v => ?_⟩
  · rw [ppuRead_pattern a s h, busAddr_eq]
    rfl
  · rw [ppuRead_nametable a s hlo hhi, hnt hlo]
  · rw [ppuRead_palette a s h, hpal]
  refine ⟨fun h => ⟨?_, fun hc => ?_⟩, fun hlo hhi => ?_, fun h => ?_⟩
  · rw [ppuWrite_pattern a v s h]
    rfl
  · rw [ppuWrite_pattern a v s h, mapperObserve_eq, State.mapCart_of_none _ s hc, State.mapCart_of_none _ s hc]
  · rw [ppuWrite_nametable a v s hlo hhi, hnt hlo, ppuRead_nametable a s hlo hhi]
    refine ⟨rfl, fun hm => ?_⟩
    obtain ⟨-, -, ⟨hvram, -⟩, -⟩ := hm
    have hwrite := bytes_vramWrite (mapperObserve (a &&& 0x3FFF) s) inVram v hvram
    intro n k
    rw [hwrite n k, SameBytes.of_memories (mapperObserve_memoryOf _ s) n k]
  · rw [ppuWrite_palette a v s h, hpal]
    refine ⟨rfl, fun hm => ?_⟩
    obtain ⟨-, -, -, ⟨hpalette, -⟩, -⟩ := hm
    exact bytes_paletteWrite s inPalette v hpalette

/-! ## PRG banking (R701, R710, R723, R730, R735, R741) -/

theorem off16k_eq (a : Word) : off16k a = a.toNat % 16384 := toNat_and_lowMask a 0x3FFF 14 rfl

theorem off8k_eq (a : Word) : off8k a = a.toNat % 8192 := toNat_and_lowMask a 0x1FFF 13 rfl

/-- A field of the MMC1 PRG or CHR register in numbers: the low four bits, and the even bank of a pair. -/
theorem mmc1_bankFields (r : BitVec 5) :
    (r &&& 0x0F).toNat = r.toNat % 16 ∧ (r &&& 0x0E).toNat = r.toNat % 16 / 2 * 2 ∧
      (r &&& 0x1E).toNat = r.toNat / 2 * 2 := by
  revert r
  decide

/-- The four PRG modes of MMC1, two of which switch 32 KiB (R723). -/
theorem Mmc1.prgBank_eq (m : Mmc1) (n16 : Nat) (a : Word) :
    m.prgBank n16 a =
      (let mode := m.control.toNat / 4 % 4
       let bank := m.prg.toNat % 16
       let upper := decide (0xC000 ≤ a.toNat)
       if mode = 3 then (if upper then n16 - 1 else bank) else if mode = 2 then (if upper then bank else 0)
       else bank / 2 * 2 + upper.toNat) := by
  obtain ⟨hbank, hpair, -⟩ := mmc1_bankFields m.prg
  unfold Mmc1.prgBank
  rw [hbank, hpair, toNat_extract]
  dsimp only [Nat.reducePow]
  generalize hmode : m.control.toNat / 4 % 4 = mode
  have hlt : mode < 4 := by omega
  cases decide (0xC000 ≤ a.toNat) <;> interval_cases mode <;> rfl

/-- The four 8 KiB slots of MMC3 (R741). -/
theorem Mmc3.prgBank_eq (m : Mmc3) (n8 : Nat) (a : Word) :
    m.prgBank n8 a =
      (let slot := a.toNat / 0x2000 % 4
       let swapped := m.bankSelect.getLsbD 6
       if slot = 0 then (if swapped then n8 - 2 else m.r[6].toNat) else if slot = 1 then m.r[7].toNat
       else if slot = 2 then (if swapped then m.r[6].toNat else n8 - 2) else n8 - 1) := by
  unfold Mmc3.prgBank
  rw [toNat_extract]
  dsimp only [Nat.reducePow]
  generalize hslot : a.toNat / 0x2000 % 4 = slot
  have hlt : slot < 4 := by omega
  interval_cases slot <;> rfl

theorem Cart.prgIndex_mmc1 (c : Cart) (m : Mmc1) (a : Word) (h : c.mapper = .mmc1 m) :
    c.prgIndex a = bankIndex (m.prgBank c.n16 a) c.n16 16384 (off16k a) := by
  rw [Cart.prgIndex, h]

theorem Cart.prgIndex_mmc3 (c : Cart) (m : Mmc3) (a : Word) (h : c.mapper = .mmc3 m) :
    c.prgIndex a = bankIndex (m.prgBank c.n8p a) c.n8p 8192 (off8k a) := by
  rw [Cart.prgIndex, h]

/-- Settles O51: a read from $8000 on is the byte at the mapper's index, which is a bank and an offset. -/
theorem prgBanksReadTheirRom : Obligations.PrgBanksReadTheirRom := by
  intro s c a hc hbanks ha n16 n8 upper slot whole in16 in8
  have hread : (memRead a s).2 = s.byteAt .prgRom (c.prgIndex a) := by
    rw [memRead_cartridge a s (by omega), s.cartRead_prgRom a c hc ha]
    simp [State.byteAt, State.memoryOf, hc]
  have hwhole (h : c.prgIndex a = (a.toNat - 0x8000) % (c.prgBanks * 16384)) : whole := by
    show (memRead a s).2 = _
    rw [hread, h, Nat.mul_comm]
  refine ⟨fun hm => hwhole (by rw [Cart.prgIndex, hm]), fun bank hm => hwhole (by rw [Cart.prgIndex, hm]),
    fun bank hm => hread.trans (congrArg _ ?_), fun m hm => hread.trans (congrArg _ ?_),
    fun m hm => hread.trans (congrArg _ ?_)⟩
  · rw [Cart.prgIndex, hm, off16k_eq]
    by_cases hupper : 0xC000 ≤ a.toNat
    · have hlast : (c.prgBanks - 1) % c.prgBanks = c.prgBanks - 1 := Nat.mod_eq_of_lt (by omega)
      simp [upper, n16, hupper, hlast, Cart.n16, show ¬ a.toNat < 0xC000 by omega]
    · simp [upper, n16, hupper, bankIndex, Cart.n16, show a.toNat < 0xC000 by omega]
  · rw [c.prgIndex_mmc1 m a hm, off16k_eq, Mmc1.prgBank_eq]
    rfl
  · rw [c.prgIndex_mmc3 m a hm, off8k_eq, Mmc3.prgBank_eq]
    rfl

/-! ## CHR banking and mirroring (R703, R704, R712 to R745) -/

/-- The 4 KiB banks of MMC1 (R724). -/
theorem Mmc1.chrBank_eq (m : Mmc1) (a : Word) (ha : a.toNat < 0x2000) :
    m.chrBank a =
      (let k := a.toNat / 0x1000
       if m.control.getLsbD 4 then (if k = 1 then m.chr1.toNat else m.chr0.toNat)
       else m.chr0.toNat / 2 * 2 + k) := by
  obtain ⟨-, -, hpair⟩ := mmc1_bankFields m.chr0
  unfold Mmc1.chrBank
  rw [hpair]
  by_cases h : 0x1000 ≤ a.toNat
  · simp [h, show a.toNat / 0x1000 = 1 by omega]
  · simp [h, show a.toNat / 0x1000 = 0 by omega]

/-- The two 1 KiB banks of a 2 KiB register of MMC3. -/
theorem mmc3_pairBanks (r : Byte) :
    (r &&& 0xFE).toNat = r.toNat / 2 * 2 ∧ (r ||| 1).toNat = r.toNat / 2 * 2 + 1 := by
  revert r
  decide

/-- CHR inversion exchanges the two halves of the eight slots. -/
theorem xor_four_toNat (k : BitVec 3) : (k ^^^ 4).toNat = (k.toNat + 4) % 8 := by
  revert k
  decide

/-- The eight 1 KiB slots of MMC3 (R742). -/
theorem Mmc3.chrBank_eq (m : Mmc3) (a : Word) (ha : a.toNat < 0x2000) :
    m.chrBank a =
      (let slot := if m.bankSelect.getLsbD 7 then (a.toNat / 0x400 + 4) % 8 else a.toNat / 0x400
       if slot = 0 ∨ slot = 1 then m.r[0].toNat / 2 * 2 + slot
       else if slot = 2 ∨ slot = 3 then m.r[1].toNat / 2 * 2 + (slot - 2)
       else if slot = 4 then m.r[2].toNat else if slot = 5 then m.r[3].toNat
       else if slot = 6 then m.r[4].toNat else m.r[5].toNat) := by
  obtain ⟨h0, h1⟩ := mmc3_pairBanks m.r[0]
  obtain ⟨h2, h3⟩ := mmc3_pairBanks m.r[1]
  have hk : (a.extractLsb' 10 3).toNat = a.toNat / 0x400 := by
    rw [toNat_extract]
    omega
  have hslot : (if m.bankSelect.getLsbD 7 then a.extractLsb' 10 3 ^^^ 4 else a.extractLsb' 10 3).toNat =
      if m.bankSelect.getLsbD 7 then (a.toNat / 0x400 + 4) % 8 else a.toNat / 0x400 := by
    split
    · rw [xor_four_toNat, hk]
    · exact hk
  unfold Mmc3.chrBank
  dsimp only
  rw [h0, h1, h2, h3, hslot]
  generalize hs : (if m.bankSelect.getLsbD 7 then (a.toNat / 0x400 + 4) % 8 else a.toNat / 0x400) = slot
  have hlt : slot < 8 := by
    rw [← hs]
    split <;> omega
  interval_cases slot <;> rfl

/-- The bytes after a pattern write: the cell of CHR-RAM, or none (R704). -/
theorem ppuWrite_pattern_bytes (a : Word) (v : Byte) (s : State) (c : Cart) (hc : s.cart = some c)
    (ha : a.toNat < 0x2000) (hwf : c.chr.wf = true) :
    SameBytesBut s (ppuWrite a v s) (if c.chrIsRam then some (.chr, c.chrIndex a) else none) v := by
  have haddr : a &&& 0x3FFF = a := by
    apply BitVec.eq_of_toNat_eq
    rw [busAddr_toNat]
    omega
  have hcart : (ppuWrite a v s).cart =
      some ((c.observed s.config.mmc3A12Debounce a).ppuWrite a v) := by
    rw [ppuWrite_pattern a v s (by omega), haddr, mapperObserve_eq, State.mapCart_cart, State.mapCart_cart, hc]
    rfl
  have hout : (ppuWrite a v s).ram = s.ram ∧ (ppuWrite a v s).ppu = s.ppu := by
    rw [ppuWrite_pattern a v s (by omega)]
    exact ⟨rfl, rfl⟩
  intro m k
  unfold State.byteAt State.memoryOf
  rw [hcart, hout.1, hout.2, hc]
  unfold Cart.ppuWrite
  rw [Cart.chrIndex_observed]
  cases hram : c.chrIsRam with
  | true =>
    rw [if_pos (by exact hram), if_pos rfl]
    cases m with
    | chr =>
      show (c.chr.write (c.chrIndex a) v).read k = _
      rw [Memory.read_write _ _ _ _ hwf]
      simp [eq_comm]
    | _ => rfl
  | false =>
    rw [if_neg (by simp [Cart.observed, hram]), if_neg (by simp)]
    cases m <;> rfl

/-- The mirroring of MMC1's control register (R721). -/
theorem Mmc1.mirroringMode_eq (m : Mmc1) :
    m.mirroringMode =
      (let mode := m.control.toNat % 4
       if mode = 0 then .oneScreenLower else if mode = 1 then .oneScreenUpper
       else if mode = 2 then .vertical else .horizontal) := by
  unfold Mmc1.mirroringMode
  rw [toNat_extract, Nat.pow_zero, Nat.div_one]
  dsimp only [Nat.reducePow]
  generalize hmode : m.control.toNat % 4 = mode
  have hlt : mode < 4 := by omega
  interval_cases mode <;> rfl

/-- Settles O52: the pattern read and write at the mapper's index, and the mirroring mode mapper by mapper. -/
theorem chrBanksAndMirroring : Obligations.ChrBanksAndMirroring := by
  intro s c hc
  constructor
  · intro a v hbanks ha k index
    have hindex : c.chrIndex a = index := by
      simp only [index, k]
      unfold Cart.chrIndex
      cases c.mapper with
      | mmc1 m =>
        simp only [Mmc1.chrBank_eq m a ha, toNat_and_lowMask a 0x0FFF 12 rfl]
        rfl
      | mmc3 m =>
        simp only [Mmc3.chrBank_eq m a ha, toNat_and_lowMask a 0x03FF 10 rfl]
        rfl
      | nrom | uxrom | cnrom => rfl
    have haddr : a &&& 0x3FFF = a := by
      apply BitVec.eq_of_toNat_eq
      rw [busAddr_toNat]
      omega
    refine ⟨?_, ppuRead_bytes a s, fun hm => ?_⟩
    · rw [ppuRead_pattern a s (by omega), haddr, ← hindex]
      simp [State.patternByte, State.byteAt, State.memoryOf, hc]
    · obtain ⟨-, -, -, -, -, hcarts⟩ := hm
      obtain ⟨-, -, -, -, hchr, -⟩ := hcarts c hc
      rw [← hindex]
      exact ppuWrite_pattern_bytes a v s c hc ha hchr
  · have hcart : s.mirroring = c.mirroring := by rw [State.mirroring, hc]
    rw [hcart]
    unfold Cart.mirroring
    by_cases hfour : c.header = .fourScreen
    · rw [if_pos hfour, if_pos hfour]
    rw [if_neg hfour, if_neg hfour]
    cases c.mapper with
    | mmc1 m => exact m.mirroringMode_eq
    | mmc3 m => rfl
    | nrom | uxrom | cnrom =>
      revert hfour
      cases c.header <;> simp [HeaderMirroring.mode]

end Sys2Proof.Machine
end

section
/-! PROOF. The APU: the clocks of its units in integer arithmetic, the frame sequencer step by step, the registers
field by field, and the range of the outputs (63_apu.md R600 to R668). -/

namespace Sys2Proof.Machine

/-! ## Bit vectors in numbers -/

/-- One less, where there is something to take away. -/
theorem toNat_sub_one {n : Nat} (x : BitVec n) (h : x ≠ 0) : (x - 1).toNat = x.toNat - 1 := by
  have hx : x.toNat ≠ 0 := fun h0 => h (BitVec.eq_of_toNat_eq (by simpa using h0))
  have hone : (1 : BitVec n).toNat = 1 := by
    have := x.isLt
    exact Nat.mod_eq_of_lt (show 1 < 2 ^ n by omega)
  rw [BitVec.toNat_sub_of_le (by rw [BitVec.le_def, hone]; omega), hone]

/-- One less, where 0 stays 0. -/
theorem toNat_countDown {n : Nat} (x : BitVec n) : (if x ≠ 0 then x - 1 else x).toNat = x.toNat - 1 := by
  split
  · next h => exact toNat_sub_one x h
  · next h => rw [not_not.mp h]; simp

theorem extract_eq_ofNat {n : Nat} (x : BitVec n) (k m : Nat) :
    x.extractLsb' k m = BitVec.ofNat m (x.toNat / 2 ^ k) := by
  apply BitVec.eq_of_toNat_eq
  rw [BitVec.extractLsb'_toNat, Nat.shiftRight_eq_div_pow, BitVec.toNat_ofNat]

/-! ## Envelopes, length counters, sweeps (R631 to R633) -/

theorem envelopeClock_toNat (start loop : Bool) (vol div decay : BitVec 4) :
    let e := envelopeClock start loop vol div decay
    e.1.toNat = (if start = true ∨ div = 0 then vol.toNat else div.toNat - 1) ∧
    e.2.toNat = (if start = true then 15 else if div ≠ 0 then decay.toNat
      else if decay = 0 then (if loop = true then 15 else 0) else decay.toNat - 1) := by
  unfold envelopeClock
  cases start with
  | true => exact ⟨rfl, rfl⟩
  | false =>
    by_cases hdiv : div = 0
    · by_cases hdecay : decay = 0
      · cases loop <;> simp [hdiv, hdecay]
      · simpa only [hdiv, hdecay, ne_eq, not_true_eq_false, not_false_eq_true, or_true, if_true, if_false,
          Bool.false_eq_true, true_and] using toNat_sub_one decay hdecay
    · simpa only [hdiv, ne_eq, not_false_eq_true, or_false, if_true, if_false, Bool.false_eq_true, and_true]
        using toNat_sub_one div hdiv

/-- The length counter counts down to 0 unless it is halted. -/
theorem lengthClock_toNat (halt : Bool) (length : Byte) :
    (lengthClock halt length).toNat = if halt = true then length.toNat else length.toNat - 1 := by
  cases halt with
  | true => simp [lengthClock]
  | false => simpa [lengthClock] using toNat_countDown length

theorem lengthClock_eq (halt : Bool) (length : Byte) :
    lengthClock halt length = if halt = true ∨ length = 0 then length else length - 1 := by
  unfold lengthClock
  cases halt <;> by_cases h : length = 0 <;> simp [h]

/-- The sweep target is the period plus or minus its shifted copy. -/
theorem Pulse.target_eq (second : Bool) (p : Pulse) :
    p.target second =
      (let period : Int := p.timerPeriod.toNat
       let change : Int := (p.timerPeriod.toNat / 2 ^ p.sweepShift.toNat : Nat)
       if p.sweepNegate = false then period + change
       else if second = true then period - change else period - change - 1) := by
  unfold Pulse.target
  rw [BitVec.toNat_ushiftRight, Nat.shiftRight_eq_div_pow]

/-- A sweep that moves the period takes away at most half of it. -/
theorem Pulse.target_nonneg (second : Bool) (p : Pulse) (hshift : p.sweepShift ≠ 0)
    (hperiod : 8 ≤ p.timerPeriod.toNat) :
    0 ≤ p.target second := by
  have hpow : 2 ≤ 2 ^ p.sweepShift.toNat :=
    Nat.le_self_pow (fun h => hshift (BitVec.eq_of_toNat_eq h)) 2
  have hhalf : p.timerPeriod.toNat / 2 ^ p.sweepShift.toNat ≤ p.timerPeriod.toNat / 2 :=
    Nat.div_le_div_left hpow (by decide)
  rw [Pulse.target_eq]
  dsimp only
  generalize p.timerPeriod.toNat / 2 ^ p.sweepShift.toNat = change at hhalf ⊢
  split
  · omega
  · split <;> omega

/-- The half-frame clock of a pulse channel (R623, R631, R633). -/
theorem Pulse.clockHalf_spec (second : Bool) (p : Pulse) :
    let q := p.clockHalf second
    let moves := p.sweepDiv = 0 ∧ p.sweepEn = true ∧ p.sweepShift ≠ 0 ∧ (8 : Int) ≤ (p.timerPeriod.toNat : Int) ∧
      p.target second ≤ 2047
    (q.timerPeriod.toNat : Int) = (if moves then p.target second else (p.timerPeriod.toNat : Int)) ∧
    q.sweepDiv.toNat = (if p.sweepDiv = 0 ∨ p.sweepReload = true then p.sweepPeriod.toNat
      else p.sweepDiv.toNat - 1) ∧
    q.length.toNat = (if p.halt = true then p.length.toNat else p.length.toNat - 1) ∧
    q = { p with timerPeriod := q.timerPeriod, sweepDiv := q.sweepDiv, sweepReload := false, length := q.length } := by
  intro q moves
  have htarget : Pulse.target second { p with length := lengthClock p.halt p.length } = p.target second := rfl
  refine ⟨?_, ?_, lengthClock_toNat p.halt p.length, ?_⟩
  · have hq : q.timerPeriod = if moves then BitVec.ofInt 11 (p.target second) else p.timerPeriod := by
      simp only [q, moves, Pulse.clockHalf, Pulse.clockSweep, htarget, decide_eq_true_eq, Nat.ofNat_le_cast]
    rw [hq]
    split
    · next hm =>
      obtain ⟨-, -, hshift, hperiod, hle⟩ := hm
      have hnonneg := p.target_nonneg second hshift (by omega)
      rw [BitVec.toNat_ofInt]
      omega
    · rfl
  · have hq : q.sweepDiv = if p.sweepDiv = 0 ∨ p.sweepReload = true then p.sweepPeriod else p.sweepDiv - 1 := by
      simp only [q, Pulse.clockHalf, Pulse.clockSweep, decide_eq_true_eq]
    rw [hq]
    split
    · rfl
    · next h => exact toNat_sub_one _ fun h0 => h (.inl h0)
  · simp only [q, Pulse.clockHalf, Pulse.clockSweep]
    cases p.sweepReload <;> simp

/-! ## Timers (R634, R640, R641, R650, R651) -/

theorem Triangle.clockTimer_spec (t : Triangle) :
    let q := t.clockTimer
    q.timer.toNat = (if t.timer = 0 then t.timerPeriod.toNat else t.timer.toNat - 1) ∧
    q.step.toNat = (if t.timer = 0 ∧ t.linear ≠ 0 ∧ t.length ≠ 0 ∧ 2 ≤ t.timerPeriod.toNat
      then (t.step.toNat + 1) % 32 else t.step.toNat) ∧
    q = { t with timer := q.timer, step := q.step } := by
  unfold Triangle.clockTimer
  by_cases h : t.timer = 0
  · have hstep : (if t.linear ≠ 0 ∧ t.length ≠ 0 ∧ 2 ≤ t.timerPeriod.toNat then t.step + 1 else t.step).toNat =
        if t.linear ≠ 0 ∧ t.length ≠ 0 ∧ 2 ≤ t.timerPeriod.toNat then (t.step.toNat + 1) % 32 else t.step.toNat := by
      split
      · exact BitVec.toNat_add _ _
      · rfl
    rw [if_pos h]
    exact ⟨(if_pos h).symm, by simpa only [h, true_and] using hstep, rfl⟩
  · rw [if_neg h]
    exact ⟨(toNat_sub_one t.timer h).trans (if_neg h).symm, (if_neg fun hall => h hall.1).symm, rfl⟩

theorem Triangle.clockLinear_spec (t : Triangle) :
    let l := t.clockLinear
    l.linear.toNat = (if t.linReload = true then t.linReloadVal.toNat else t.linear.toNat - 1) ∧
    (l.linReload = true ↔ t.linReload = true ∧ t.control = true) ∧
    l = { t with linear := l.linear, linReload := l.linReload } := by
  unfold Triangle.clockLinear
  refine ⟨?_, by simp, rfl⟩
  cases t.linReload with
  | true => rfl
  | false => exact toNat_countDown t.linear

/-- Bit `k` of a register as a number. -/
theorem toNat_getLsbD {n : Nat} (x : BitVec n) (k : Nat) : (x.getLsbD k).toNat = x.toNat / 2 ^ k % 2 := by
  rw [BitVec.getLsbD, Nat.toNat_testBit]

/-- A bit moved into the top of a shifted 15-bit register. -/
theorem shiftIn_toNat (x : BitVec 15) (f : Bool) :
    ((x >>> 1) ||| (boolBit 15 f <<< 14)).toNat = x.toNat / 2 + 16384 * f.toNat := by
  have hx : (x >>> 1).toNat = x.toNat / 2 := by simp [Nat.shiftRight_eq_div_pow]
  have hlt := x.isLt
  cases f with
  | false => simpa [boolBit] using hx
  | true =>
    have h := Nat.two_pow_add_eq_or_of_lt (b := x.toNat / 2) (i := 14) (by omega) 1
    rw [BitVec.toNat_or, hx, Nat.or_comm]
    simp only [boolBit, if_true, BitVec.toNat_shiftLeft]
    simp at h ⊢
    omega

/-- The noise channel's feedback bit is the parity of two taps. -/
theorem noiseFeedback_toNat (x : BitVec 15) (mode : Bool) :
    (x.getLsbD 0 ^^ (if mode then x.getLsbD 6 else x.getLsbD 1)).toNat =
      (x.toNat + x.toNat / 2 ^ (if mode = true then 6 else 1)) % 2 := by
  have h0 := toNat_getLsbD x 0
  have hxor (a b : Bool) : (a ^^ b).toNat = (a.toNat + b.toNat) % 2 := by cases a <;> cases b <;> rfl
  cases mode with
  | true =>
    have h6 := toNat_getLsbD x 6
    simp only [hxor, if_true]
    omega
  | false =>
    have h1 := toNat_getLsbD x 1
    simp only [hxor, Bool.false_eq_true, if_false]
    omega

theorem noisePeriod_reload (i : BitVec 4) :
    noisePeriods[i.toNat]? = some ((BitVec.ofNat 12 (noisePeriods.getD i.toNat 0 - 1)).toNat + 1) := by
  revert i
  decide

theorem Noise.clockTimer_spec (n : Noise) :
    let q := n.clockTimer
    let tap := n.lfsr.toNat / 2 ^ (if n.mode = true then 6 else 1)
    let feedback := (n.lfsr.toNat + tap) % 2
    (if n.timer = 0 then noisePeriods[n.periodIdx.toNat]? = some (q.timer.toNat + 1) ∧
        q.lfsr.toNat = n.lfsr.toNat / 2 + 16384 * feedback
     else q.timer.toNat = n.timer.toNat - 1 ∧ q.lfsr = n.lfsr) ∧
    q = { n with timer := q.timer, lfsr := q.lfsr } := by
  unfold Noise.clockTimer
  by_cases h : n.timer = 0
  · simp only [if_pos h, shiftIn_toNat, noiseFeedback_toNat]
    exact ⟨⟨noisePeriod_reload n.periodIdx, trivial⟩, trivial⟩
  · simp only [if_neg h]
    exact ⟨⟨toNat_sub_one n.timer h, trivial⟩, trivial⟩

/-- The shift register never reaches 0: from 1 the feedback bit is 1 (R651). -/
theorem Noise.clockTimer_lfsr_ne_zero (n : Noise) (h : n.lfsr ≠ 0) : n.clockTimer.lfsr ≠ 0 := by
  have hne : n.lfsr.toNat ≠ 0 := fun h0 => h (BitVec.eq_of_toNat_eq h0)
  obtain ⟨hclock, -⟩ := n.clockTimer_spec
  intro hz
  have hz0 : n.clockTimer.lfsr.toNat = 0 := congrArg BitVec.toNat hz
  split at hclock
  · obtain ⟨-, hshift⟩ := hclock
    have hone : n.lfsr.toNat = 1 := by omega
    rw [hone, hz0] at hshift
    revert hshift
    cases n.mode <;> decide
  · exact h (hclock.2.symm.trans hz)

/-! ## The DMC's timer (R660, R661) -/

theorem dmcRate_reload (i : BitVec 4) :
    dmcRates[i.toNat]? = some ((BitVec.ofNat 9 (dmcRates.getD i.toNat 0 - 1)).toNat + 1) := by
  revert i
  decide

theorem dmcLevel_toNat (bit : Bool) (level : BitVec 7) :
    (dmcLevel bit level).toNat =
      if bit = true then (if level.toNat ≤ 125 then level.toNat + 2 else level.toNat)
      else (if 2 ≤ level.toNat then level.toNat - 2 else level.toNat) := by
  revert level
  cases bit <;> decide

/-- The DMC's timer while it runs. -/
theorem Dmc.clockTimer_running (c : Dmc) (h : c.timer ≠ 0) : c.clockTimer = { c with timer := c.timer - 1 } := by
  rw [Dmc.clockTimer, if_neg h]

/-- The DMC's timer at 0 inside an output cycle. -/
theorem Dmc.clockTimer_bit (c : Dmc) (h : c.timer = 0) (hleft : c.bitsLeft.toNat - 1 ≠ 0) :
    c.clockTimer =
      { c with
        timer := BitVec.ofNat 9 (dmcRates.getD c.rateIdx.toNat 0 - 1)
        level := if c.silence then c.level else dmcLevel (c.shift.getLsbD 0) c.level
        shift := c.shift >>> 1, bitsLeft := c.bitsLeft - 1 } := by
  have hb : c.bitsLeft ≠ 0 := fun h0 => hleft (by rw [h0]; rfl)
  have hb1 : c.bitsLeft - 1 ≠ 0 := fun h0 => hleft (by rw [← toNat_sub_one _ hb, h0]; rfl)
  rw [Dmc.clockTimer, if_pos h]
  simp only [if_pos hb, if_neg hb1]

/-- The DMC's timer at 0 at the end of an output cycle. -/
theorem Dmc.clockTimer_cycleEnd (c : Dmc) (h : c.timer = 0) (hleft : c.bitsLeft.toNat - 1 = 0) :
    c.clockTimer =
      { c with
        timer := BitVec.ofNat 9 (dmcRates.getD c.rateIdx.toNat 0 - 1)
        level := if c.silence then c.level else dmcLevel (c.shift.getLsbD 0) c.level
        shift := if c.bufferFull then c.buffer else c.shift >>> 1
        bitsLeft := 8, silence := !c.bufferFull, bufferFull := false } := by
  have hb : (if c.bitsLeft ≠ 0 then c.bitsLeft - 1 else c.bitsLeft) = 0 :=
    BitVec.eq_of_toNat_eq ((toNat_countDown _).trans hleft)
  rw [Dmc.clockTimer, if_pos h]
  simp only [hb, if_true]
  cases hf : c.bufferFull <;> simp

theorem Dmc.clockTimer_spec (c : Dmc) :
    let q := c.clockTimer
    let up := c.shift.getLsbD 0
    let level := c.level.toNat
    let left := c.bitsLeft.toNat - 1
    let cycleEnds := decide (c.timer = 0 ∧ left = 0)
    q.level.toNat = (if c.timer ≠ 0 ∨ c.silence = true then level
      else if up = true then (if level ≤ 125 then level + 2 else level)
      else (if 2 ≤ level then level - 2 else level)) ∧
    (if c.timer = 0 then dmcRates[c.rateIdx.toNat]? = some (q.timer.toNat + 1)
      else q.timer.toNat = c.timer.toNat - 1) ∧
    q.bitsLeft.toNat = (if c.timer ≠ 0 then c.bitsLeft.toNat else if left = 0 then 8 else left) ∧
    q.shift.toNat = (if c.timer ≠ 0 then c.shift.toNat
      else if cycleEnds && c.bufferFull then c.buffer.toNat else c.shift.toNat / 2) ∧
    q = { c with
      level := q.level, timer := q.timer, bitsLeft := q.bitsLeft, shift := q.shift
      silence := if cycleEnds then !c.bufferFull else c.silence
      bufferFull := c.bufferFull && !cycleEnds } := by
  intro q up level left cycleEnds
  have hlevel : (if c.silence then c.level else dmcLevel up c.level).toNat =
      if c.silence = true then level else if up = true then (if level ≤ 125 then level + 2 else level)
      else (if 2 ≤ level then level - 2 else level) := by
    split
    · rfl
    · exact dmcLevel_toNat up c.level
  have hrate := dmcRate_reload c.rateIdx
  have hshift : (c.shift >>> 1).toNat = c.shift.toNat / 2 := by simp [Nat.shiftRight_eq_div_pow]
  by_cases h : c.timer = 0
  · by_cases hleft : left = 0
    · have hends : cycleEnds = true := decide_eq_true ⟨h, hleft⟩
      have hnext : (if c.bufferFull then c.buffer else c.shift >>> 1).toNat =
          if c.bufferFull = true then c.buffer.toNat else c.shift.toNat / 2 := by
        rw [apply_ite BitVec.toNat, hshift]
      simp only [q, c.clockTimer_cycleEnd h hleft, hends, ne_eq, h, hleft, not_true_eq_false, false_or, if_true,
        if_false, Bool.true_and, Bool.not_true, Bool.and_false]
      exact ⟨hlevel, hrate, rfl, hnext, trivial⟩
    · have hends : cycleEnds = false := decide_eq_false fun hc => hleft hc.2
      have hb : (c.bitsLeft - 1).toNat = left := toNat_sub_one _ fun h0 => hleft (by simp only [left, h0]; rfl)
      simp only [q, c.clockTimer_bit h hleft, hends, hb, ne_eq, h, hleft, not_true_eq_false, false_or, if_true,
        if_false, Bool.false_eq_true, Bool.false_and, Bool.not_false, Bool.and_true]
      exact ⟨hlevel, hrate, trivial, hshift, trivial⟩
  · have hends : cycleEnds = false := decide_eq_false fun hc => h hc.1
    simp only [q, c.clockTimer_running h, hends, ne_eq, h, not_false_eq_true, true_or, if_true, if_false,
      Bool.false_eq_true, Bool.not_false, Bool.and_true]
    exact ⟨rfl, toNat_sub_one _ h, trivial, trivial, trivial⟩

/-- Settles O48, unit by unit. -/
theorem apuUnitsClockInIntegerArithmetic : Obligations.ApuUnitsClockInIntegerArithmetic := by
  refine ⟨envelopeClock_toNat, fun second p => ?_, fun _ => rfl, fun t => ?_, fun n => ?_, Dmc.clockTimer_spec⟩
  · have h := p.clockHalf_spec second
    rw [Pulse.target_eq] at h
    exact h
  · obtain ⟨htimer, hstep, hframe⟩ := t.clockTimer_spec
    exact ⟨htimer, hstep, hframe, t.clockLinear_spec⟩
  · obtain ⟨hclock, hframe⟩ := n.clockTimer_spec
    exact ⟨hclock, hframe, n.clockTimer_lfsr_ne_zero⟩

/-! ## The frame sequencer (R620 to R624) -/

/-- The APU cycle at which step `k` fires (R621). -/
def stepAt (scale : FrameScale) (k : Nat) : Nat := stepTime scale (stepHalves.getD k 0)

/-- The five step times differ. -/
theorem stepAt_inj (scale : FrameScale) : ∀ j < 5, ∀ k < 5, (stepAt scale j = stepAt scale k ↔ j = k) := by
  cases scale <;> decide

theorem lastStep_lt (fiveStep : Bool) : lastStep fiveStep < 5 := by
  cases fiveStep <;> decide

/-- A fold whose condition holds of no entry changes nothing. -/
theorem foldl_applyWhen_none {α β : Type} (p : β → Bool) (f : β → α → α) (l : List β) (a : α)
    (h : ∀ k ∈ l, p k = false) : l.foldl (fun b k => applyWhen (p k) (f k) b) a = a := by
  induction l with
  | nil => rfl
  | cons j rest ih =>
    rw [List.foldl_cons, h j (by simp), applyWhen_false]
    exact ih fun k hk => h k (by simp [hk])

/-- A fold whose condition holds of one entry makes that entry's change. -/
theorem foldl_applyWhen_one {β α : Type} [DecidableEq β] (p : β → Bool) (f : β → α → α) (l : List β) (a : α) (k : β)
    (hnodup : l.Nodup) (hk : k ∈ l) (h : ∀ j ∈ l, p j = decide (j = k)) :
    l.foldl (fun b j => applyWhen (p j) (f j) b) a = f k a := by
  induction l generalizing a with
  | nil => cases hk
  | cons j rest ih =>
    obtain ⟨hj, hrest⟩ := List.nodup_cons.mp hnodup
    rw [List.foldl_cons, h j (by simp)]
    by_cases hjk : j = k
    · subst hjk
      rw [decide_eq_true rfl, applyWhen_true]
      refine foldl_applyWhen_none p f rest _ fun i hi => ?_
      rw [h i (by simp [hi])]
      exact decide_eq_false fun hij => hj (hij ▸ hi)
    · rw [decide_eq_false hjk, applyWhen_false]
      exact ih a hrest (by simpa [Ne.symm hjk] using hk) fun i hi => h i (by simp [hi])

/-- The APU after the steps that fire in this cycle (R621). -/
def Apu.fireSteps (scale : FrameScale) (a : Apu) : Apu :=
  (List.range (lastStep a.fiveStep + 1)).foldl
    (fun b k => applyWhen (decide (a.fc + 1 = stepAt scale k)) (Apu.sequencerStep k) b) { a with fc := a.fc + 1 }

theorem Apu.frameSequencer_eq (scale : FrameScale) (a : Apu) :
    a.frameSequencer scale = if a.fc + 1 = stepAt scale (lastStep a.fiveStep) then { a.fireSteps scale with fc := 0 }
      else a.fireSteps scale := rfl

/-- No step fires in this cycle. -/
theorem Apu.frameSequencer_quiet (scale : FrameScale) (a : Apu)
    (h : ∀ k ≤ lastStep a.fiveStep, a.fc + 1 ≠ stepAt scale k) :
    a.frameSequencer scale = { a with fc := a.fc + 1 } := by
  rw [Apu.frameSequencer_eq, if_neg (h _ le_rfl)]
  refine foldl_applyWhen_none _ _ _ _ fun k hk => decide_eq_false (h k ?_)
  exact Nat.lt_succ_iff.mp (List.mem_range.mp hk)

/-- Step `k` fires in this cycle; the last step restarts the sequence. -/
theorem Apu.frameSequencer_step (scale : FrameScale) (a : Apu) (k : Nat) (hk : k ≤ lastStep a.fiveStep)
    (h : a.fc + 1 = stepAt scale k) :
    a.frameSequencer scale =
      if lastStep a.fiveStep = k then { Apu.sequencerStep k { a with fc := a.fc + 1 } with fc := 0 }
      else Apu.sequencerStep k { a with fc := a.fc + 1 } := by
  have hlast := lastStep_lt a.fiveStep
  have hinj (j : Nat) (hj : j ≤ lastStep a.fiveStep) : a.fc + 1 = stepAt scale j ↔ j = k := by
    rw [h, eq_comm, stepAt_inj scale j (by omega) k (by omega)]
  have hfire : a.fireSteps scale = Apu.sequencerStep k { a with fc := a.fc + 1 } := by
    refine foldl_applyWhen_one _ _ _ _ k List.nodup_range (List.mem_range.mpr (Nat.lt_succ_iff.mpr hk)) ?_
    intro j hj
    exact decide_eq_decide.mpr (hinj j (Nat.lt_succ_iff.mp (List.mem_range.mp hj)))
  rw [Apu.frameSequencer_eq, hfire]
  exact if_congr (hinj _ le_rfl) rfl rfl

/-- Settles O47: a cycle in which one step fires, and a cycle in which none does. -/
theorem frameSequencerSteps : Obligations.FrameSequencerSteps := by
  intro scale a now times at5 quarter half last pulse noise counted b c
  have hat (k : Nat) (hk : k < 5) : at5 k = decide (now = stepAt scale k) := by
    have htimes : times[k]? = some (stepAt scale k) := by
      cases scale <;> interval_cases k <;> rfl
    simp only [at5, htimes, Option.some.injEq, eq_comm]
  have hcounted : counted = lengthClock := by
    funext halt length
    exact (lengthClock_eq halt length).symm
  have hb : b = applyWhen quarter Apu.quarterFrame a := rfl
  have hc : c = applyWhen half Apu.halfFrame b := by
    simp only [c, hcounted]
    rfl
  have hlast5 := lastStep_lt a.fiveStep
  rw [hc, hb]
  by_cases hfires : ∃ k ≤ lastStep a.fiveStep, now = stepAt scale k
  · obtain ⟨k, hk, hnow⟩ := hfires
    have hone (j : Nat) (hj : j < 5) : at5 j = decide (j = k) := by
      rw [hat j hj, hnow]
      exact decide_eq_decide.mpr (eq_comm.trans (stepAt_inj scale j hj k (by omega)))
    rw [a.frameSequencer_step scale k hk hnow]
    simp only [half, quarter, last, hone 0 (by decide), hone 1 (by decide), hone 2 (by decide),
      hone 3 (by decide), hone 4 (by decide)]
    unfold Apu.sequencerStep
    cases hfive : a.fiveStep with
    | false =>
      have hk3 : k ≤ 3 := by rwa [hfive] at hk
      interval_cases k <;> simp [hfive, lastStep, Apu.quarterFrame, Apu.halfFrame, applyWhen, now]
    | true =>
      have hk4 : k ≤ 4 := by rwa [hfive] at hk
      interval_cases k <;> simp [hfive, lastStep, Apu.quarterFrame, Apu.halfFrame, applyWhen, now]
  · have hquiet : ∀ k ≤ lastStep a.fiveStep, now ≠ stepAt scale k := fun k hk h => hfires ⟨k, hk, h⟩
    rw [a.frameSequencer_quiet scale hquiet]
    have hno (k : Nat) (hk : k ≤ lastStep a.fiveStep) : at5 k = false := by
      rw [hat k (by omega)]
      exact decide_eq_false (hquiet k hk)
    obtain hfive | hfive := Bool.eq_false_or_eq_true a.fiveStep <;> rw [hfive] at hno
    · simp [quarter, half, last, hno 0 (by decide), hno 1 (by decide), hno 2 (by decide), hno 4 (by decide), hfive, now]
    · simp [quarter, half, last, hno 0 (by decide), hno 1 (by decide), hno 2 (by decide), hno 3 (by decide), hfive, now]

/-! ## Registers (R600 to R612) -/

/-- The low byte of an 11-bit period replaced, in numbers (R604). -/
theorem periodLow_eq (d : Byte) (p : BitVec 11) :
    periodLow d p = BitVec.ofNat 11 (p.toNat / 256 * 256 + d.toNat) := by
  have hd : (d.setWidth 11).toNat = d.toNat := BitVec.toNat_setWidth_of_le (by decide)
  have h := toNat_replaceField p 0x700#11 (d.setWidth 11) 0 8 (by omega) (by decide) (by decide)
  rw [hd, BitVec.shiftLeft_zero] at h
  apply BitVec.eq_of_toNat_eq
  rw [periodLow, h, BitVec.toNat_ofNat]
  omega

/-- The high three bits of an 11-bit period replaced, in numbers (R605). -/
theorem periodHigh_eq (d : Byte) (p : BitVec 11) :
    periodHigh d p = BitVec.ofNat 11 (d.toNat % 8 * 256 + p.toNat % 256) := by
  have hd : ((d &&& 0x07).setWidth 11).toNat = d.toNat % 8 := by
    exact (BitVec.toNat_setWidth_of_le (by decide)).trans (toNat_and_lowMask d 0x07 3 rfl)
  have h := toNat_replaceField p 0x0FF#11 ((d &&& 0x07).setWidth 11) 8 3 (by omega) (by decide) (by decide)
  rw [hd] at h
  apply BitVec.eq_of_toNat_eq
  rw [periodHigh, h, BitVec.toNat_ofNat]
  omega

theorem lengthLoad_eq (d : Byte) : lengthLoad d = BitVec.ofNat 8 (lengthTable.getD (d.toNat / 8) 0) := by
  rw [lengthLoad, BitVec.toNat_ushiftRight, Nat.shiftRight_eq_div_pow]

/-- A field of a data byte in numbers. -/
theorem dataField_eq (d : Byte) (k m : Nat) : d.extractLsb' k m = BitVec.ofNat m (d.toNat / 2 ^ k) :=
  extract_eq_ofNat d k m

/-- A field from bit 0 on, reduced to its width. -/
theorem lowField_eq (d : Byte) (m : Nat) : d.extractLsb' 0 m = BitVec.ofNat m (d.toNat % 2 ^ m) := by
  apply BitVec.eq_of_toNat_eq
  rw [toNat_extract, BitVec.toNat_ofNat, Nat.mod_mod, Nat.pow_zero, Nat.div_one]

/-- The seven status bits as a sum (R611). -/
theorem statusBits_toNat (b0 b1 b2 b3 b4 b6 b7 : Bool) :
    (boolBit 8 b0 ||| (boolBit 8 b1 <<< 1) ||| (boolBit 8 b2 <<< 2) ||| (boolBit 8 b3 <<< 3)
      ||| (boolBit 8 b4 <<< 4) ||| (boolBit 8 b6 <<< 6) ||| (boolBit 8 b7 <<< 7)).toNat =
      b0.toNat + 2 * b1.toNat + 4 * b2.toNat + 8 * b3.toNat + 16 * b4.toNat + 64 * b6.toNat + 128 * b7.toNat := by
  revert b0 b1 b2 b3 b4 b6 b7
  decide

theorem Apu.status_toNat (a : Apu) :
    a.status.toNat = (if a.pulse1.length = 0 then 0 else 1) + (if a.pulse2.length = 0 then 0 else 2) +
      (if a.tri.length = 0 then 0 else 4) + (if a.noise.length = 0 then 0 else 8) +
      (if a.dmc.bytesLeft = 0 then 0 else 16) + 64 * a.frameIrq.toNat + 128 * a.dmcIrq.toNat := by
  have hbit (c : Prop) [Decidable c] (w : Nat) : w * (decide (¬ c)).toNat = if c then 0 else w := by
    by_cases h : c <;> simp [h]
  unfold Apu.status
  rw [statusBits_toNat, ← Nat.one_mul (decide (a.pulse1.length ≠ 0)).toNat]
  simp only [hbit, ne_eq]

theorem Dmc.enable_eq (on : Bool) (c : Dmc) :
    c.enable on = { c with bytesLeft := (c.enable on).bytesLeft, curAddr := (c.enable on).curAddr } := by
  unfold Dmc.enable
  cases on with
  | false => rfl
  | true => rw [if_pos rfl]; split <;> rfl

/-- The sample restarts when the DMC is enabled with no byte left (R610, R662). -/
theorem Dmc.enable_toNat (on : Bool) (c : Dmc) :
    (c.enable on).bytesLeft.toNat =
      (if on = false then 0 else if c.bytesLeft = 0 then 16 * c.lenReg.toNat + 1 else c.bytesLeft.toNat) ∧
    (c.enable on).curAddr.toNat =
      (if on = true ∧ c.bytesLeft = 0 then 0xC000 + 64 * c.addrReg.toNat else c.curAddr.toNat) := by
  have hlen := c.lenReg.isLt
  have haddr := c.addrReg.isLt
  have hrestart : c.restart.bytesLeft.toNat = 16 * c.lenReg.toNat + 1 ∧
      c.restart.curAddr.toNat = 0xC000 + 64 * c.addrReg.toNat := by
    simp [Dmc.restart]
    omega
  unfold Dmc.enable
  cases on with
  | false => exact ⟨rfl, rfl⟩
  | true =>
    simp only [true_and, if_true, reduceCtorEq, if_false]
    split
    · exact hrestart
    · exact ⟨rfl, rfl⟩

/-- The $4017 write with the half frame written out (R612, R623). -/
theorem Apu.writeFrameCounter_eq (d : Byte) (a : Apu) :
    a.writeFrameCounter d =
      let b := { a with
        fiveStep := d.getLsbD 7, irqInhibit := d.getLsbD 6, frameIrq := a.frameIrq && !d.getLsbD 6, fc := 0 }
      let counted := fun (halt : Bool) (len : Byte) => if halt = true ∨ len = 0 then len else len - 1
      if d.getLsbD 7 then
        { b with
          pulse1 := a.pulse1.clockHalf false, pulse2 := a.pulse2.clockHalf true
          tri := { a.tri with length := counted a.tri.control a.tri.length }
          noise := { a.noise with length := counted a.noise.halt a.noise.length } }
      else b := by
  have hirq : (if d.getLsbD 6 then false else a.frameIrq) = (a.frameIrq && !d.getLsbD 6) := by
    cases d.getLsbD 6 <;> simp
  unfold Apu.writeFrameCounter Apu.halfFrame applyWhen
  rw [hirq]
  dsimp only
  rw [lengthClock_eq, lengthClock_eq]

/-- The $4015 read (R611). -/
theorem memRead_apuStatus_spec (s : State) :
    (memRead 0x4015 s).2.toNat =
      (if s.apu.pulse1.length = 0 then 0 else 1) + (if s.apu.pulse2.length = 0 then 0 else 2) +
      (if s.apu.tri.length = 0 then 0 else 4) + (if s.apu.noise.length = 0 then 0 else 8) +
      (if s.apu.dmc.bytesLeft = 0 then 0 else 16) + 64 * s.apu.frameIrq.toNat + 128 * s.apu.dmcIrq.toNat ∧
    (memRead 0x4015 s).1 = { s with apu := { s.apu with frameIrq := false } } :=
  ⟨s.apu.status_toNat, rfl⟩

theorem memWrite_enables (d : Byte) (s : State) : memWrite 0x4015 d s = { s with apu := s.apu.writeEnables d } := by
  rw [memWrite_apuRegister 0x4015 d s (by decide) (by decide), show (0x4015 : Word).toNat - 0x4000 = 21 from rfl]
  rfl

theorem memWrite_frameCounter (d : Byte) (s : State) :
    memWrite 0x4017 d s = { s with apu := s.apu.writeFrameCounter d } := by
  rw [memWrite_apuRegister 0x4017 d s (by decide) (by decide), show (0x4017 : Word).toNat - 0x4000 = 23 from rfl]
  rfl

/-- Settles O46: the status read, the enable write, and the register writes, address by address. -/
theorem apuRegisterReadsAndWrites : Obligations.ApuRegisterReadsAndWrites := by
  refine ⟨memRead_apuStatus_spec, fun d s => ?_, fun d s => ?_⟩
  · obtain ⟨hbytes, haddr⟩ := s.apu.dmc.enable_toNat (d.getLsbD 4)
    rw [memWrite_enables]
    refine ⟨?_, rfl, rfl, rfl, rfl, hbytes, haddr⟩
    unfold Apu.writeEnables
    rw [Dmc.enable_eq]
    rfl
  · intro n on lengths loaded low high control sweep timer length p1 p2 tri noise dmc
    have hlow (p : BitVec 11) : periodLow d p = low p := periodLow_eq d p
    have hhigh (p : BitVec 11) : periodHigh d p = high p := periodHigh_eq d p
    have hlength (enabled : Bool) (old : Byte) : (if enabled then lengthLoad d else old) = loaded enabled old := by
      rw [lengthLoad_eq]
      rfl
    have hnibble : d.extractLsb' 0 4 = BitVec.ofNat 4 (n % 16) := lowField_eq d 4
    have hseven : d.extractLsb' 0 7 = BitVec.ofNat 7 (n % 128) := lowField_eq d 7
    have hcontrol (p : Pulse) : p.writeControl d = control p := by
      rw [Pulse.writeControl, dataField_eq, hnibble]
      rfl
    have hsweep (p : Pulse) : p.writeSweep d = sweep p := by
      have hperiod : d.extractLsb' 4 3 = BitVec.ofNat 3 (n / 16 % 8) := by
        apply BitVec.eq_of_toNat_eq
        rw [toNat_extract, BitVec.toNat_ofNat]
        omega
      rw [Pulse.writeSweep, hperiod, lowField_eq]
      rfl
    have hpulse (p : Pulse) : p.writeLength d = length p := by
      rw [Pulse.writeLength, hhigh, hlength]
    have htimer (p : Pulse) : p.writeTimerLow d = timer p := by
      rw [Pulse.writeTimerLow, hlow]
    have hlinear : tri.writeLinear d =
        { tri with control := d.getLsbD 7, linReloadVal := BitVec.ofNat 7 (n % 128) } := by
      rw [Triangle.writeLinear, hseven]
    have htriTimer : tri.writeTimerLow d = { tri with timerPeriod := low tri.timerPeriod } := by
      rw [Triangle.writeTimerLow, hlow]
    have htriLength : tri.writeLength d = { tri with
        timerPeriod := high tri.timerPeriod, length := loaded tri.enabled tri.length, linReload := true } := by
      rw [Triangle.writeLength, hhigh, hlength]
    have hnoiseControl : noise.writeControl d = { noise with
        halt := d.getLsbD 5, constVol := d.getLsbD 4, vol := BitVec.ofNat 4 (n % 16) } := by
      rw [Noise.writeControl, hnibble]
    have hnoisePeriod : noise.writePeriod d =
        { noise with mode := d.getLsbD 7, periodIdx := BitVec.ofNat 4 (n % 16) } := by
      rw [Noise.writePeriod, hnibble]
    have hnoiseLength : noise.writeLength d =
        { noise with length := loaded noise.enabled noise.length, envStart := true } := by
      rw [Noise.writeLength, hlength]
    have hwrite (a : Word) (r : Nat) (hlo : 0x4000 ≤ a.toNat) (hhi : a.toNat ≤ 0x4013) (hr : a.toNat - 0x4000 = r) :
        memWrite a d s = on (s.apu.writeRegister r d) := by
      rw [memWrite_apuRegister a d s hlo (.inl hhi), hr]
    refine ⟨(hwrite 0x4000 0 ?_ ?_ rfl).trans (congrArg (fun q => on { s.apu with pulse1 := q }) (hcontrol p1)),
      (hwrite 0x4001 1 ?_ ?_ rfl).trans (congrArg (fun q => on { s.apu with pulse1 := q }) (hsweep p1)),
      (hwrite 0x4002 2 ?_ ?_ rfl).trans (congrArg (fun q => on { s.apu with pulse1 := q }) (htimer p1)),
      (hwrite 0x4003 3 ?_ ?_ rfl).trans (congrArg (fun q => on { s.apu with pulse1 := q }) (hpulse p1)),
      (hwrite 0x4004 4 ?_ ?_ rfl).trans (congrArg (fun q => on { s.apu with pulse2 := q }) (hcontrol p2)),
      (hwrite 0x4005 5 ?_ ?_ rfl).trans (congrArg (fun q => on { s.apu with pulse2 := q }) (hsweep p2)),
      (hwrite 0x4006 6 ?_ ?_ rfl).trans (congrArg (fun q => on { s.apu with pulse2 := q }) (htimer p2)),
      (hwrite 0x4007 7 ?_ ?_ rfl).trans (congrArg (fun q => on { s.apu with pulse2 := q }) (hpulse p2)),
      (hwrite 0x4008 8 ?_ ?_ rfl).trans (congrArg (fun q => on { s.apu with tri := q }) hlinear),
      hwrite 0x4009 9 ?_ ?_ rfl,
      (hwrite 0x400A 10 ?_ ?_ rfl).trans (congrArg (fun q => on { s.apu with tri := q }) htriTimer),
      (hwrite 0x400B 11 ?_ ?_ rfl).trans (congrArg (fun q => on { s.apu with tri := q }) htriLength),
      (hwrite 0x400C 12 ?_ ?_ rfl).trans (congrArg (fun q => on { s.apu with noise := q }) hnoiseControl),
      hwrite 0x400D 13 ?_ ?_ rfl,
      (hwrite 0x400E 14 ?_ ?_ rfl).trans (congrArg (fun q => on { s.apu with noise := q }) hnoisePeriod),
      (hwrite 0x400F 15 ?_ ?_ rfl).trans (congrArg (fun q => on { s.apu with noise := q }) hnoiseLength),
      (hwrite 0x4010 16 ?_ ?_ rfl).trans (congrArg (fun q => on { s.apu with
        dmc := { dmc with irqEn := d.getLsbD 7, loop := d.getLsbD 6, rateIdx := q }
        dmcIrq := s.apu.dmcIrq && d.getLsbD 7 }) hnibble),
      (hwrite 0x4011 17 ?_ ?_ rfl).trans (congrArg (fun q => on { s.apu with dmc := { dmc with level := q } }) hseven),
      hwrite 0x4012 18 ?_ ?_ rfl, hwrite 0x4013 19 ?_ ?_ rfl,
      (memWrite_frameCounter d s).trans (congrArg on (s.apu.writeFrameCounter_eq d))⟩ <;> decide

/-! ## Outputs (R636 to R668) -/

theorem envelopeLevel_le (constVol : Bool) (vol decay : BitVec 4) : (envelopeLevel constVol vol decay).toNat ≤ 15 :=
  Nat.le_of_lt_succ (envelopeLevel constVol vol decay).isLt

theorem Pulse.output_le (mute second : Bool) (p : Pulse) : p.output mute second ≤ 15 := by
  have hlevel := envelopeLevel_le p.constVol p.vol p.envDecay
  unfold Pulse.output
  split_ifs <;> omega

theorem Pulse.output_silent (mute second : Bool) (p : Pulse)
    (h : p.timerPeriod.toNat < 8 ∨ p.length = 0 ∨ dutyBit p.duty p.dutyStep = false) :
    p.output mute second = 0 := by
  unfold Pulse.output
  split_ifs <;> tauto

theorem triTable_getD : ∀ step : BitVec 5,
    triTable.getD step.toNat 0 = if step.toNat < 16 then 15 - step.toNat else step.toNat - 16 := by
  decide

theorem Triangle.output_le (t : Triangle) : t.output ≤ 15 := by
  have hstep := t.step.isLt
  rw [Triangle.output, triTable_getD]
  split_ifs <;> omega

theorem Noise.output_le (n : Noise) : n.output ≤ 15 := by
  have hlevel := envelopeLevel_le n.constVol n.vol n.envDecay
  unfold Noise.output
  split_ifs <;> omega

/-- One group's share of the mixer's output grows with the sum of its channels. -/
theorem mixShare_le {k c x bound : Rat} (hk : 0 ≤ k) (hc : 0 < c) (hx : 0 < x) (hle : x ≤ bound) :
    0 ≤ k / (c / x + 100) ∧ k / (c / x + 100) ≤ k / (c / bound + 100) := by
  have hpos : 0 < c / bound := div_pos hc (hx.trans_le hle)
  have hratio : c / bound ≤ c / x := div_le_div_of_nonneg_left hc.le hx hle
  exact ⟨div_nonneg hk (by linarith), div_le_div_of_nonneg_left hk (by linarith) (by linarith)⟩

/-- The pulse share is below 0.2585 and the share of the other three channels below 0.7416, and the sum of the two
bounds below 1 (R668). -/
theorem mixOf_bounds {p1 p2 t n d : Nat} (hp1 : p1 ≤ 15) (hp2 : p2 ≤ 15) (ht : t ≤ 15) (hn : n ≤ 15) (hd : d ≤ 127) :
    0 ≤ mixOf p1 p2 t n d ∧ mixOf p1 p2 t n d < 1 := by
  have hpulse : 0 ≤ (if p1 + p2 = 0 then (0 : Rat) else (9588 / 100) / (8128 / ((p1 + p2 : Nat) : Rat) + 100)) ∧
      (if p1 + p2 = 0 then (0 : Rat) else (9588 / 100) / (8128 / ((p1 + p2 : Nat) : Rat) + 100)) ≤
        (9588 / 100) / (8128 / 30 + 100) := by
    split
    · norm_num
    next h =>
      have hle : ((p1 + p2 : Nat) : Rat) ≤ 30 := by exact_mod_cast (show p1 + p2 ≤ 30 by omega)
      exact mixShare_le (by norm_num) (by norm_num) (by exact_mod_cast Nat.pos_of_ne_zero h) hle
  have hrest : 0 ≤ (if t + n + d = 0 then (0 : Rat)
        else (15979 / 100) / (1 / ((t : Rat) / 8227 + (n : Rat) / 12241 + (d : Rat) / 22638) + 100)) ∧
      (if t + n + d = 0 then (0 : Rat)
        else (15979 / 100) / (1 / ((t : Rat) / 8227 + (n : Rat) / 12241 + (d : Rat) / 22638) + 100)) ≤
        (15979 / 100) / (1 / (15 / 8227 + 15 / 12241 + 127 / 22638) + 100) := by
    split
    · norm_num
    next h =>
      have ht' : (t : Rat) ≤ 15 := by exact_mod_cast ht
      have hn' : (n : Rat) ≤ 15 := by exact_mod_cast hn
      have hd' : (d : Rat) ≤ 127 := by exact_mod_cast hd
      have hsum : (0 : Rat) < t + n + d := by exact_mod_cast Nat.pos_of_ne_zero h
      have ht0 : (0 : Rat) ≤ t := t.cast_nonneg
      have hn0 : (0 : Rat) ≤ n := n.cast_nonneg
      have hd0 : (0 : Rat) ≤ d := d.cast_nonneg
      exact mixShare_le (by norm_num) (by norm_num) (by linarith) (by linarith)
  have hbounds : (9588 / 100 : Rat) / (8128 / 30 + 100) +
      (15979 / 100) / (1 / (15 / 8227 + 15 / 12241 + 127 / 22638) + 100) < 1 := by norm_num
  unfold mixOf
  dsimp only
  constructor <;> linarith [hpulse.1, hpulse.2, hrest.1, hrest.2]

/-- Settles O49: ranges channel by channel, and the mixer by the bounds of its two shares. -/
theorem apuOutputsStayInRange : Obligations.ApuOutputsStayInRange := by
  refine ⟨fun mute second p => ⟨p.output_le mute second, p.output_silent mute second⟩, fun t => triTable_getD t.step,
    fun n => ⟨n.output_le, fun h => if_pos h⟩, fun s => ?_, by norm_num [mixOf]⟩
  exact mixOf_bounds (Pulse.output_le _ _ _) (Pulse.output_le _ _ _) (Triangle.output_le _) (Noise.output_le _)
    (Nat.le_of_lt_succ s.apu.dmc.level.isLt)

end Sys2Proof.Machine
end

section
/-! PROOF. What a step keeps. Every part of a step is a composition of few elementary changes, each within the size of
a memory and the range of a counter; a relation that the elementary changes keep is kept by every step. The memories,
the counters and the configuration are such relations (10_state.md sections 3 to 8, 20_memory.md section 2). -/

namespace Sys2Proof.Machine

/-! ## Elementary changes -/

/-- A position on the 262 scanlines of 341 dots (R500). -/
def Ppu.PositionOk (p : Ppu) : Prop := -1 ≤ p.scanline ∧ p.scanline ≤ 260 ∧ p.dot ≤ 340

/-- A PPU change of no memory and no frame entry, after which at most eight sprites are still selected and the
position is still one of the frame. -/
def Ppu.Keeps (p q : Ppu) : Prop :=
  q.oam = p.oam ∧ q.vram = p.vram ∧ q.palette = p.palette ∧ q.frame = p.frame ∧
    (p.sprCount ≤ 8 → q.sprCount ≤ 8) ∧ (p.PositionOk → q.PositionOk)

/-- A cartridge change of no configuration that keeps the memories canonical and the counters in range. -/
def Cart.Keeps (c d : Cart) : Prop :=
  c.SameConfiguration d ∧ (c.MemoriesOk → d.MemoriesOk) ∧ (c.mapper.CountersOk → d.mapper.CountersOk)

/-- A relation that every elementary change of the machine keeps. -/
structure MachineWork (r : State → State → Prop) : Prop where
  refl : ∀ s, r s s
  trans : ∀ {s t u}, r s t → r t u → r s u
  withCpu : ∀ s c, r s (s.withCpu c)
  count : ∀ s, r s (countDot s)
  ppu : ∀ s f, s.ppu.Keeps (f s.ppu) → r s (s.mapPpu f)
  oam : ∀ s k v, k < 256 → r s (s.mapPpu fun p => { p with oam := p.oam.write k v })
  vram : ∀ s k v, k < 4096 → r s (s.mapPpu fun p => { p with vram := p.vram.write k v })
  palette : ∀ s k v, k < 32 → r s (s.mapPpu fun p => { p with palette := p.palette.write k v })
  frame : ∀ s k px, k < 61440 → r s (s.mapPpu fun p => { p with frame := cellWrite Pixel.blank p.frame k px })
  ram : ∀ s a v, r s (s.writeRam a v)
  cart : ∀ s f, (∀ c : Cart, c.Keeps (f c)) → r s (s.mapCart f)
  apu : ∀ s f, (s.apu.CountersOk s.config.apuFrameScale → (f s.apu).CountersOk s.config.apuFrameScale) →
    r s (s.mapApu f)
  ctrl : ∀ s c, (s.ctrl.port0.index ≤ 8 → c.port0.index ≤ 8) → (s.ctrl.port1.index ≤ 8 → c.port1.index ≤ 8) →
    r s { s with ctrl := c }

/-! ## The cartridge -/

theorem Cart.SameConfiguration.refl (c : Cart) : c.SameConfiguration c := ⟨rfl, rfl, rfl, rfl, rfl, rfl, fun _ => rfl⟩

theorem Cart.SameConfiguration.trans {c d e : Cart} (h : c.SameConfiguration d) (k : d.SameConfiguration e) :
    c.SameConfiguration e := by
  obtain ⟨hrom, hn, hm, hram, hheader, hid, hchr⟩ := h
  obtain ⟨krom, kn, km, kram, kheader, kid, kchr⟩ := k
  exact ⟨krom.trans hrom, kn.trans hn, km.trans hm, kram.trans hram, kheader.trans hheader, kid.trans hid,
    fun hc => (kchr (hram.trans hc)).trans (hchr hc)⟩

/-- A change of the mapper's registers alone. -/
theorem Cart.keeps_mapper (c : Cart) (m : Mapper) (hid : m.id = c.mapper.id)
    (hcount : c.mapper.CountersOk → m.CountersOk) : c.Keeps { c with mapper := m } :=
  ⟨⟨rfl, rfl, rfl, rfl, rfl, hid, fun _ => rfl⟩, fun h => h, hcount⟩

theorem Cart.keeps_observed (debounce : Nat) (a : Word) (c : Cart) : c.Keeps (c.observed debounce a) := by
  refine c.keeps_mapper _ ?_ ?_
  · cases c.mapper <;> rfl
  · cases c.mapper <;> exact id

theorem Cart.keeps_clock (c : Cart) : c.Keeps { c with mapper := c.mapper.clock } := by
  refine c.keeps_mapper _ ?_ ?_
  · cases c.mapper <;> rfl
  · cases c.mapper <;> exact id

/-- The serial port counts to 4 and starts again (R720). -/
theorem Mmc1.write_shiftCount (m : Mmc1) (a : Word) (v : Byte) (h : m.shiftCount ≤ 4) :
    (m.write a v).shiftCount ≤ 4 := by
  unfold Mmc1.write
  split
  · exact Nat.zero_le 4
  · dsimp only
    split
    · exact Nat.zero_le 4
    · dsimp only
      omega

theorem Cart.keeps_registerWrite (a : Word) (v : Byte) (c : Cart) :
    c.Keeps { c with mapper := c.mapper.write a v } := by
  refine c.keeps_mapper _ ?_ ?_
  · cases c.mapper <;> rfl
  · cases c.mapper with
    | mmc1 m => exact m.write_shiftCount a v
    | nrom | uxrom | cnrom | mmc3 => exact id

theorem Cart.keeps_prgRamWrite (k : Nat) (v : Byte) (c : Cart) (hk : k < 8192) :
    c.Keeps { c with prgRam := c.prgRam.write k v } := by
  refine ⟨⟨rfl, rfl, rfl, rfl, rfl, rfl, fun _ => rfl⟩, fun h => ?_, id⟩
  obtain ⟨hn, hm, hrom, ⟨hwf, hbelow⟩, hchr⟩ := h
  exact ⟨hn, hm, hrom, ⟨c.prgRam.write_wf k v hwf, c.prgRam.write_below 8192 k v hbelow hk⟩, hchr⟩

theorem Cart.keeps_refl (c : Cart) : c.Keeps c := ⟨.refl c, id, id⟩

/-- A CPU write reaches the mapper registers, PRG-RAM or nothing (R700, R702). -/
theorem Cart.keeps_cpuWrite (a : Word) (v : Byte) (c : Cart) : c.Keeps (c.cpuWrite a v) := by
  unfold Cart.cpuWrite
  split
  · exact c.keeps_registerWrite a v
  next hlo =>
    split
    · split
      · exact c.keeps_prgRamWrite _ v (by omega)
      · exact c.keeps_refl
    · exact c.keeps_refl

theorem bankIndex_lt {bank count size off : Nat} (hcount : 1 ≤ count) (hoff : off < size) :
    bankIndex bank count size off < count * size := by
  have hbank : bank % count + 1 ≤ count := Nat.mod_lt _ hcount
  have hmul := Nat.mul_le_mul_right size hbank
  rw [Nat.add_mul, Nat.one_mul] at hmul
  exact Nat.lt_of_lt_of_le (Nat.add_lt_add_left hoff _) hmul

/-- A pattern address names a byte of CHR (R700, R701). -/
theorem Cart.chrIndex_lt (c : Cart) (a : Word) (ha : a.toNat < 0x2000) (hm : 1 ≤ c.chrBanks) :
    c.chrIndex a < 8192 * c.chrBanks := by
  unfold Cart.chrIndex
  split
  · omega
  · have h := bankIndex_lt (bank := Mmc1.chrBank ‹_› a) (show 1 ≤ c.n4c by unfold Cart.n4c; omega)
      (show (a &&& 0x0FFF).toNat < 4096 by rw [toNat_and_lowMask a 0x0FFF 12 rfl]; omega)
    unfold Cart.n4c at h ⊢
    omega
  · omega
  next bank _ =>
    have h := bankIndex_lt (bank := bank.toNat) hm ha
    unfold Cart.n8c
    omega
  · have h := bankIndex_lt (bank := Mmc3.chrBank ‹_› a) (show 1 ≤ c.n1c by unfold Cart.n1c; omega)
      (show (a &&& 0x03FF).toNat < 1024 by rw [toNat_and_lowMask a 0x03FF 10 rfl]; omega)
    unfold Cart.n1c at h ⊢
    omega

/-- A pattern write changes CHR-RAM alone (R704). -/
theorem Cart.keeps_ppuWrite (a : Word) (v : Byte) (c : Cart) (ha : a.toNat < 0x2000) : c.Keeps (c.ppuWrite a v) := by
  unfold Cart.ppuWrite
  split
  next hram =>
    refine ⟨⟨rfl, rfl, rfl, rfl, rfl, rfl, fun h => absurd (hram.symm.trans h) (by decide)⟩, fun h => ?_, id⟩
    obtain ⟨hn, hm, hrom, hprgRam, hwf, hbelow⟩ := h
    exact ⟨hn, hm, hrom, hprgRam, c.chr.write_wf _ v hwf, c.chr.write_below _ _ v hbelow (c.chrIndex_lt a ha hm)⟩
  · exact c.keeps_refl

/-! ## The APU's counters (R621, R651, R661) -/

/-- The part of the APU that its counters' ranges speak of. -/
def Apu.SameCounters (a b : Apu) : Prop :=
  b.fc = a.fc ∧ b.fiveStep = a.fiveStep ∧ b.dmc.bitsLeft = a.dmc.bitsLeft ∧ b.noise.lfsr = a.noise.lfsr

theorem Apu.SameCounters.countersOk {scale : FrameScale} {a b : Apu} (h : a.SameCounters b)
    (ha : a.CountersOk scale) : b.CountersOk scale := by
  obtain ⟨hfc, hmode, hbits, hlfsr⟩ := h
  unfold Apu.CountersOk at *
  rwa [hfc, hmode, hbits, hlfsr]

theorem Apu.sequencerStep_sameCounters (k : Nat) (a : Apu) : a.SameCounters (a.sequencerStep k) := by
  unfold Apu.sequencerStep applyWhen
  split_ifs <;> exact ⟨rfl, rfl, rfl, rfl⟩

theorem Apu.fireSteps_sameCounters (scale : FrameScale) (a : Apu) :
    Apu.SameCounters { a with fc := a.fc + 1 } (a.fireSteps scale) := by
  have hfold (l : List Nat) (p : Nat → Bool) (b : Apu) :
      b.SameCounters (l.foldl (fun b k => applyWhen (p k) (Apu.sequencerStep k) b) b) := by
    induction l generalizing b with
    | nil => exact ⟨rfl, rfl, rfl, rfl⟩
    | cons k rest ih =>
      have hstep : b.SameCounters (applyWhen (p k) (Apu.sequencerStep k) b) := by
        cases p k
        · exact ⟨rfl, rfl, rfl, rfl⟩
        · exact b.sequencerStep_sameCounters k
      obtain ⟨hfc, hmode, hbits, hlfsr⟩ := hstep
      obtain ⟨hfc', hmode', hbits', hlfsr'⟩ := ih (applyWhen (p k) (Apu.sequencerStep k) b)
      exact ⟨hfc'.trans hfc, hmode'.trans hmode, hbits'.trans hbits, hlfsr'.trans hlfsr⟩
  exact hfold _ _ _

theorem stepAt_pos : ∀ (scale : FrameScale) (fiveStep : Bool), 0 < stepAt scale (lastStep fiveStep) := by
  intro scale fiveStep
  cases scale <;> cases fiveStep <;> decide

/-- The frame counter restarts when it meets the last step of its mode (R621). -/
theorem Apu.frameSequencer_countersOk (scale : FrameScale) (a : Apu) (h : a.CountersOk scale) :
    (a.frameSequencer scale).CountersOk scale := by
  obtain ⟨hlast, hrest⟩ := h
  obtain ⟨hfc, hmode, hbits, hlfsr⟩ := a.fireSteps_sameCounters scale
  rw [Apu.frameSequencer_eq]
  unfold Apu.CountersOk
  split
  · exact ⟨stepAt_pos scale _, hbits ▸ hrest.1, hlfsr ▸ hrest.2⟩
  next hne =>
    refine ⟨?_, hbits ▸ hrest.1, hlfsr ▸ hrest.2⟩
    rw [hfc, hmode]
    exact Nat.lt_of_le_of_ne hlast hne

theorem Dmc.clockTimer_bitsLeft_le (c : Dmc) (h : c.bitsLeft.toNat ≤ 8) : c.clockTimer.bitsLeft.toNat ≤ 8 := by
  obtain ⟨-, -, hbits, -⟩ := c.clockTimer_spec
  rw [hbits]
  split_ifs <;> omega

theorem Apu.clock_countersOk (scale : FrameScale) (a : Apu) (h : a.CountersOk scale) :
    (a.clock scale).CountersOk scale := by
  have hseq := Apu.frameSequencer_countersOk scale { a with apuCycles := a.apuCycles + 1 } h
  obtain ⟨hfc, hbits, hlfsr⟩ := hseq
  exact ⟨hfc, Dmc.clockTimer_bitsLeft_le _ hbits, Noise.clockTimer_lfsr_ne_zero _ hlfsr⟩

/-- A register write leaves the counters alone; $4017 alone restarts the sequence, in the mode it chooses (R612). -/
theorem Apu.writeRegister_countersOk (scale : FrameScale) (k : Nat) (d : Byte) (a : Apu) (h : a.CountersOk scale) :
    (a.writeRegister k d).CountersOk scale := by
  obtain ⟨hfc, hbits, hlfsr⟩ := h
  unfold Apu.writeRegister
  split
  case h_19 =>
    have henable : (a.writeEnables d).dmc.bitsLeft = a.dmc.bitsLeft := by
      unfold Apu.writeEnables
      rw [Dmc.enable_eq]
    exact ⟨hfc, henable ▸ hbits, hlfsr⟩
  case h_20 =>
    rw [Apu.writeFrameCounter_eq]
    dsimp only
    split <;> exact ⟨stepAt_pos scale _, hbits, hlfsr⟩
  all_goals exact ⟨hfc, hbits, hlfsr⟩

theorem dmcReceive_sameCounters (b : Byte) (a : Apu) : a.SameCounters (dmcReceive b a) := by
  unfold dmcReceive
  dsimp only
  split_ifs <;> exact ⟨rfl, rfl, rfl, rfl⟩

/-! ## The PPU's pipeline (R540 to R551) -/

/-- The PPU with the scroll address, tile latches, shifters and sprite list of another. -/
def Ppu.withPipeline (p q : Ppu) : Ppu :=
  { p with
    v := q.v, bgNt := q.bgNt, bgAt := q.bgAt, bgLo := q.bgLo, bgHi := q.bgHi
    shPatLo := q.shPatLo, shPatHi := q.shPatHi, shAtLo := q.shAtLo, shAtHi := q.shAtHi
    sprCount := q.sprCount, slots := q.slots, spr0InLine := q.spr0InLine, spriteOverflow := q.spriteOverflow }

/-- A change of the pipeline fields alone, after which at most eight sprites are still selected. -/
def Ppu.Pipelined (p q : Ppu) : Prop := q = p.withPipeline q ∧ (p.sprCount ≤ 8 → q.sprCount ≤ 8)

theorem Ppu.Pipelined.refl (p : Ppu) : p.Pipelined p := ⟨rfl, id⟩

theorem Ppu.Pipelined.trans {p q u : Ppu} (h : p.Pipelined q) (k : q.Pipelined u) : p.Pipelined u :=
  ⟨k.1.trans (show q.withPipeline u = (p.withPipeline q).withPipeline u from congrArg (Ppu.withPipeline · u) h.1),
    fun hp => k.2 (h.2 hp)⟩

theorem Ppu.Pipelined.keeps {p q : Ppu} (h : p.Pipelined q) : p.Keeps q := by
  obtain ⟨heq, hcount⟩ := h
  refine ⟨?_, ?_, ?_, ?_, hcount, fun hpos => ?_⟩
  case refine_5 => exact heq ▸ hpos
  all_goals exact heq ▸ rfl

/-- A relation that the pipeline's fetches and its changes of the pipeline fields keep. -/
structure PipelineWork (r : State → State → Prop) : Prop where
  refl : ∀ s, r s s
  trans : ∀ {s t u}, r s t → r t u → r s u
  read : ∀ s a, r s (ppuRead a s).1
  ppu : ∀ s f, (∀ p : Ppu, p.Pipelined (f p)) → r s (s.mapPpu f)

variable {r : State → State → Prop}

theorem PipelineWork.when (h : PipelineWork r) (c : Bool) (f : State → State) (s : State) (hf : ∀ s, r s (f s)) :
    r s (applyWhen c f s) := by
  cases c
  · exact h.refl s
  · exact hf s

/-- A fetch into a pipeline field. -/
theorem PipelineWork.fetchInto (h : PipelineWork r) (a : Word) (f : Byte → Ppu → Ppu)
    (hf : ∀ b (p : Ppu), p.Pipelined (f b p)) (s : State) : r s ((ppuRead a s).1.mapPpu (f (ppuRead a s).2)) :=
  h.trans (h.read s a) (h.ppu _ _ (hf _))

theorem PipelineWork.fetchTile (h : PipelineWork r) (s : State) : r s (fetchTile s) :=
  h.fetchInto _ (fun b p => { p with bgNt := b }) (fun _ _ => ⟨rfl, id⟩) s

/-- The background fetches (R541). -/
theorem PipelineWork.bgFetch (h : PipelineWork r) (k : Nat) (s : State) : r s (bgFetch k s) := by
  unfold Machine.bgFetch
  split
  · exact h.trans (h.ppu s Ppu.loadBg fun _ => ⟨rfl, id⟩) (h.fetchTile _)
  · exact h.fetchInto _ (fun b p => { p with bgAt := attrBits p.v b }) (fun _ _ => ⟨rfl, id⟩) _
  · exact h.fetchInto _ (fun b p => { p with bgLo := b }) (fun _ _ => ⟨rfl, id⟩) _
  · exact h.fetchInto _ (fun b p => { p with bgHi := b }) (fun _ _ => ⟨rfl, id⟩) _
  · exact h.ppu s _ fun _ => ⟨rfl, id⟩
  · exact h.refl s

/-- The sprite fetches (R551). -/
theorem PipelineWork.fetchSprites (h : PipelineWork r) (line : Int) (s : State) : r s (fetchSprites line s) := by
  unfold Machine.fetchSprites
  generalize List.range 8 = l
  induction l generalizing s with
  | nil => exact h.refl s
  | cons i rest ih =>
    refine h.trans ?_ (ih (fetchSlot line i s))
    unfold fetchSlot
    exact h.trans (h.trans (h.read s _) (h.read _ _)) (h.ppu _ _ fun _ => ⟨rfl, id⟩)

/-- The scan selects at most eight sprites (R550). -/
theorem Ppu.scanSprites_pipelined (h : Nat) (line : Int) (l : List Nat) (p : Ppu) :
    p.Pipelined (Ppu.scanSprites h line l p) := by
  induction l generalizing p with
  | nil => exact .refl p
  | cons n rest ih =>
    unfold Ppu.scanSprites
    dsimp only
    split
    · split
      next hlt =>
        refine Ppu.Pipelined.trans ?_ (ih _)
        exact ⟨rfl, fun _ => hlt⟩
      · exact ⟨rfl, id⟩
    · exact ih p

theorem Ppu.clearSprites_pipelined (p : Ppu) : p.Pipelined p.clearSprites := ⟨rfl, fun _ => Nat.zero_le 8⟩

/-- The pipeline work of a dot (R540). -/
theorem PipelineWork.pipelineDot (h : PipelineWork r) (sl : Int) (d : Nat) (s : State) : r s (pipelineDot sl d s) := by
  unfold Machine.pipelineDot
  refine h.trans ?_ (h.when _ _ _ h.fetchTile)
  refine h.trans ?_ (h.when _ _ _ fun s => h.ppu s _ fun _ => ⟨rfl, id⟩)
  refine h.trans ?_ (h.when _ _ _ fun s => h.fetchSprites _ s)
  refine h.trans ?_ (h.when _ _ _ fun s => h.ppu s _ fun p => ?sprites)
  refine h.trans ?_ (h.when _ _ _ fun s => h.ppu s _ fun _ => ⟨rfl, id⟩)
  refine h.trans ?_ (h.when _ _ _ fun s => h.ppu s _ fun _ => ⟨rfl, id⟩)
  refine h.trans ?_ (h.when _ _ _ fun s => h.bgFetch _ s)
  · exact h.when _ _ _ fun s => h.ppu s _ fun _ => ⟨rfl, id⟩
  case sprites =>
    split
    · exact p.clearSprites_pipelined.trans (Ppu.scanSprites_pipelined _ _ _ _)
    · exact p.clearSprites_pipelined

/-! ## The position (R502) -/

theorem Ppu.advance_same (d : Nat) (rendering : Bool) (p : Ppu) :
    (p.advance d rendering).oam = p.oam ∧ (p.advance d rendering).vram = p.vram ∧
      (p.advance d rendering).palette = p.palette ∧ (p.advance d rendering).frame = p.frame ∧
      (p.advance d rendering).sprCount = p.sprCount := by
  unfold Ppu.advance
  dsimp only
  split_ifs <;> exact ⟨rfl, rfl, rfl, rfl, rfl⟩

theorem Ppu.advance_positionOk (d : Nat) (rendering : Bool) (p : Ppu) (h : p.PositionOk) :
    (p.advance d rendering).PositionOk := by
  obtain ⟨hlo, hhi, hdot⟩ := h
  unfold Ppu.advance Ppu.PositionOk
  dsimp only
  generalize (if p.scanline = -1 ∧ d = 338 ∧ p.oddFrame = true ∧ rendering = true then 340 else p.dot + 1) = next
  split_ifs <;> dsimp only <;> omega

/-! ## From the elementary changes to the step -/

section
variable (h : MachineWork r)
include h

theorem MachineWork.observe (a : Word) (s : State) : r s (mapperObserve a s) :=
  h.cart s _ (Cart.keeps_observed _ a)

theorem MachineWork.ppuRead (s : State) (a : Word) : r s (ppuRead a s).1 := by
  obtain hs | hs := ppuRead_state a s <;> rw [hs]
  · exact h.refl s
  · exact h.observe _ s

theorem MachineWork.ppuWrite (a : Word) (v : Byte) (s : State) : r s (ppuWrite a v s) := by
  have hbus := busAddr_toNat a
  obtain hlo | hlo := Nat.lt_or_ge (a.toNat % 0x4000) 0x2000
  · rw [ppuWrite_pattern a v s hlo]
    exact h.trans (h.observe _ s) (h.cart _ _ fun c => c.keeps_ppuWrite _ v (by omega))
  obtain hhi | hhi := Nat.lt_or_ge (a.toNat % 0x4000) 0x3F00
  · rw [ppuWrite_nametable a v s hlo hhi]
    exact h.trans (h.observe _ s) (h.vram _ _ v (ntIndex_lt _ _))
  · rw [ppuWrite_palette a v s hhi]
    exact h.palette s _ v (palIndex_lt _)

/-- A PPU change of registers alone. -/
theorem MachineWork.ppuRegister (s : State) (f : Ppu → Ppu) (hf : (f s.ppu).oam = s.ppu.oam ∧
    (f s.ppu).vram = s.ppu.vram ∧ (f s.ppu).palette = s.ppu.palette ∧ (f s.ppu).frame = s.ppu.frame ∧
    (f s.ppu).sprCount = s.ppu.sprCount ∧ (f s.ppu).scanline = s.ppu.scanline ∧ (f s.ppu).dot = s.ppu.dot) :
    r s (s.mapPpu f) := by
  obtain ⟨hoam, hvram, hpalette, hframe, hcount, hline, hdot⟩ := hf
  refine h.ppu s f ⟨hoam, hvram, hpalette, hframe, fun hle => hcount ▸ hle, fun hpos => ?_⟩
  unfold Ppu.PositionOk
  rwa [hline, hdot]

/-- A port's index stops at 8 (R471). -/
theorem MachineWork.controllerRead (second : Bool) (s : State) : r s (controllerRead second s).1 := by
  have hshift (strobe : Bool) (p : Port) (hp : p.index ≤ 8) : (p.shiftRead strobe).1.index ≤ 8 := by
    unfold Port.shiftRead
    cases strobe with
    | true => exact Nat.zero_le 8
    | false =>
      simp only [applyWhen_false, Bool.false_eq_true, if_false]
      split
      · exact hp
      · dsimp only
        omega
  cases second
  · exact h.ctrl s { s.ctrl with port0 := (s.ctrl.port0.shiftRead s.ctrl.strobe).1 } (hshift _ _) id
  · exact h.ctrl s { s.ctrl with port1 := (s.ctrl.port1.shiftRead s.ctrl.strobe).1 } id (hshift _ _)

theorem MachineWork.memRead (a : Word) (s : State) : r s (memRead a s).1 := by
  obtain hs | hs | hs | hs | ⟨b, hs⟩ := memRead_cases a s <;> rw [hs]
  · exact h.refl s
  · exact h.ppuRegister s (fun p => { p with vblank := false, w := false }) ⟨rfl, rfl, rfl, rfl, rfl, rfl, rfl⟩
  · obtain ⟨addr, byte, hdata⟩ := readData_state s
    rw [hdata]
    refine h.trans (h.ppuRead s addr) (h.ppuRegister _ _ ?_)
    exact ⟨rfl, rfl, rfl, rfl, rfl, rfl, rfl⟩
  · exact h.apu s (fun a => { a with frameIrq := false }) id
  · exact h.controllerRead b s

/-- A PPU register write (R521). -/
theorem MachineWork.ppuRegWrite (k : Nat) (d : Byte) (s : State) : r s (ppuRegWrite k d s) := by
  unfold Machine.ppuRegWrite
  split
  · exact h.ppuRegister s _ ⟨rfl, rfl, rfl, rfl, rfl, rfl, rfl⟩
  · exact h.ppuRegister s _ ⟨rfl, rfl, rfl, rfl, rfl, rfl, rfl⟩
  · exact h.ppuRegister s _ ⟨rfl, rfl, rfl, rfl, rfl, rfl, rfl⟩
  · exact h.trans (h.oam s s.ppu.oamaddr.toNat d s.ppu.oamaddr.isLt)
      (h.ppuRegister _ (fun p => { p with oamaddr := p.oamaddr + 1 }) ⟨rfl, rfl, rfl, rfl, rfl, rfl, rfl⟩)
  · refine h.ppuRegister s _ ?_
    unfold Ppu.writeScroll
    split <;> exact ⟨rfl, rfl, rfl, rfl, rfl, rfl, rfl⟩
  · refine h.ppuRegister s _ ?_
    unfold Ppu.writeAddr
    split <;> exact ⟨rfl, rfl, rfl, rfl, rfl, rfl, rfl⟩
  · exact h.trans (h.ppuWrite _ d s) (h.ppuRegister _ _ ⟨rfl, rfl, rfl, rfl, rfl, rfl, rfl⟩)
  · exact h.refl s

theorem MachineWork.oamCopy (p : Byte) (l : List Nat) (s : State) : r s (oamCopy p l s) := by
  induction l generalizing s with
  | nil => exact h.refl s
  | cons i rest ih =>
    unfold Machine.oamCopy
    dsimp only
    refine h.trans (h.trans (h.memRead (zext16 p * 0x100 + BitVec.ofNat 16 i) s) ?_) (ih _)
    generalize Machine.memRead (zext16 p * 0x100 + BitVec.ofNat 16 i) s = u
    exact h.oam u.1 ((u.1.ppu.oamaddr.toNat + i) % 256) u.2 (Nat.mod_lt _ (by decide))

theorem MachineWork.memWrite (a : Word) (v : Byte) (s : State) : r s (memWrite a v s) := by
  have hindex (p : Port) (hp : p.index ≤ 8) : (applyWhen (v.getLsbD 0) Port.reload p).index ≤ 8 := by
    cases v.getLsbD 0
    · exact hp
    · exact Nat.zero_le 8
  unfold Machine.memWrite
  split_ifs
  · exact h.cart s _ (Cart.keeps_cpuWrite a v)
  · exact h.ram s a v
  · exact h.ppuRegWrite _ v s
  · exact h.trans (h.oamCopy v (List.range 256) s) (h.withCpu _ _)
  · exact h.ctrl s _ (hindex _) (hindex _)
  · exact h.apu s _ (Apu.writeRegister_countersOk _ _ v _)
  · exact h.refl s

theorem MachineWork.pipeline : PipelineWork r :=
  ⟨h.refl, h.trans, h.ppuRead, fun s f hf => h.ppu s f (hf s.ppu).keeps⟩

theorem MachineWork.renderPixel (x line : Nat) (s : State) (hx : x < 256) (hline : line < 240) :
    r s (s.mapPpu (Ppu.renderPixel x line)) := by
  have hframe := h.frame s (256 * line + x)
    { colour := s.ppu.colourOf (composePixel (s.ppu.bgPixel x) (s.ppu.bgPalette x) (s.ppu.spriteDot x))
      emphasis := s.ppu.mask.extractLsb' 5 3 } (by omega)
  exact h.trans hframe (h.ppuRegister _ (fun p => { p with
    sprite0Hit := s.ppu.sprite0Hit || zeroHit x (s.ppu.bgPixel x) (s.ppu.spriteDot x) })
    ⟨rfl, rfl, rfl, rfl, rfl, rfl, rfl⟩)

/-- One dot: the frame entry of a visible dot lies in the frame (R540, R57). -/
theorem MachineWork.ppuDot (s : State) : r s (ppuDot s) := by
  have hclear (u : State) : r u (u.mapPpu Ppu.clearFlags) := h.ppuRegister u _ ⟨rfl, rfl, rfl, rfl, rfl, rfl, rfl⟩
  have hvblank (u : State) : r u (u.mapPpu Ppu.startVblank) := h.ppuRegister u _ ⟨rfl, rfl, rfl, rfl, rfl, rfl, rfl⟩
  have hadvance (d : Nat) (rendering : Bool) (u : State) : r u (u.mapPpu (Ppu.advance d rendering)) := by
    obtain ⟨hoam, hvram, hpalette, hframe, hcount⟩ := u.ppu.advance_same d rendering
    exact h.ppu u _ ⟨hoam, hvram, hpalette, hframe, fun hle => hcount ▸ hle, u.ppu.advance_positionOk d rendering⟩
  have hrender (sl : Int) (d : Nat) (u : State) :
      r u (applyWhen (decide ((0 ≤ sl ∧ sl ≤ 239) ∧ 1 ≤ d ∧ d ≤ 256))
        (State.mapPpu (Ppu.renderPixel (d - 1) sl.toNat)) u) := by
    unfold applyWhen
    split
    next hvisible =>
      have hbounds := of_decide_eq_true hvisible
      exact h.renderPixel _ _ u (by omega) (by omega)
    · exact h.refl u
  unfold Machine.ppuDot
  exact h.trans (h.trans (h.trans (h.trans (h.pipeline.when _ _ s hclear)
    (h.pipeline.when _ _ _ (h.pipeline.pipelineDot _ _))) (hrender _ _ _)) (h.pipeline.when _ _ _ hvblank))
    (hadvance _ _ _)

theorem MachineWork.stepWork : StepWork r where
  refl := h.refl
  trans := h.trans
  withCpu := h.withCpu
  read := h.memRead
  write := h.memWrite
  dot := h.ppuDot
  apu s := h.apu s _ (Apu.clock_countersOk _ s.apu)
  dmcByte b s := h.apu s _ (dmcReceive_sameCounters b s.apu).countersOk
  mapper s := h.cart s _ Cart.keeps_clock
  nmiTaken s := h.ppuRegister s (fun p => { p with nmiOut := false }) ⟨rfl, rfl, rfl, rfl, rfl, rfl, rfl⟩
  count := h.count

end

/-! ## The memories (R45, R49, R53, R57, R71, R103) -/

/-- A changed cartridge that keeps its own memories keeps those of the machine. -/
theorem State.mapCart_memoriesOk (s : State) (f : Cart → Cart) (hf : ∀ c : Cart, c.MemoriesOk → (f c).MemoriesOk)
    (hs : s.MemoriesOk) : (s.mapCart f).MemoriesOk := by
  obtain ⟨hram, hoam, hvram, hpalette, hframe, hcart⟩ := hs
  refine ⟨hram, hoam, hvram, hpalette, hframe, fun d hd => ?_⟩
  obtain ⟨c, hc, rfl⟩ := Option.map_eq_some_iff.mp hd
  exact hf c (hcart c hc)

/-- Every elementary change stays within the memories. -/
theorem memoriesWork : MachineWork fun s t => s.MemoriesOk ∧ s.PositionOk → t.MemoriesOk ∧ t.PositionOk where
  refl _ := id
  trans h k := k ∘ h
  withCpu _ _ := id
  count _ := id
  ppu s f hf := by
    obtain ⟨hoam, hvram, hpalette, hframe, -, hposition⟩ := hf
    rintro ⟨hmem, hpos⟩
    refine ⟨?_, hposition hpos⟩
    unfold State.MemoriesOk
    rwa [State.mapPpu_ppu, hoam, hvram, hpalette, hframe]
  oam s k v hk := by
    rintro ⟨⟨hram, ⟨hwf, hbelow⟩, hrest⟩, hpos⟩
    exact ⟨⟨hram, ⟨s.ppu.oam.write_wf k v hwf, s.ppu.oam.write_below 256 k v hbelow hk⟩, hrest⟩, hpos⟩
  vram s k v hk := by
    rintro ⟨⟨hram, hoam, ⟨hwf, hbelow⟩, hrest⟩, hpos⟩
    exact ⟨⟨hram, hoam, ⟨s.ppu.vram.write_wf k v hwf, s.ppu.vram.write_below 4096 k v hbelow hk⟩, hrest⟩, hpos⟩
  palette s k v hk := by
    rintro ⟨⟨hram, hoam, hvram, ⟨hwf, hbelow⟩, hrest⟩, hpos⟩
    exact ⟨⟨hram, hoam, hvram, ⟨s.ppu.palette.write_wf k v hwf, s.ppu.palette.write_below 32 k v hbelow hk⟩, hrest⟩,
      hpos⟩
  frame s k px hk := by
    rintro ⟨⟨hram, hoam, hvram, hpalette, ⟨hwf, hbelow⟩, hrest⟩, hpos⟩
    exact ⟨⟨hram, hoam, hvram, hpalette, ⟨cellWrite_wfFrom Pixel.blank s.ppu.frame 0 k px hwf (Nat.zero_le k),
      cellWrite_below Pixel.blank s.ppu.frame 61440 k px hbelow hk⟩, hrest⟩, hpos⟩
  ram s a v := by
    rintro ⟨⟨⟨hwf, hbelow⟩, hrest⟩, hpos⟩
    have hk : ramIndex a < 2048 := by
      rw [ramIndex, toNat_and_lowMask a 0x07FF 11 rfl]
      omega
    exact ⟨⟨⟨s.ram.write_wf _ v hwf, s.ram.write_below 2048 _ v hbelow hk⟩, hrest⟩, hpos⟩
  cart s f hf := fun ⟨hmem, hpos⟩ => ⟨s.mapCart_memoriesOk f (fun c => (hf c).2.1) hmem, hpos⟩
  apu _ _ _ := id
  ctrl _ _ _ _ := id

/-- Settles O57. -/
theorem everyStepKeepsTheMemories : Obligations.EveryStepKeepsTheMemories :=
  fun _ _ hmem hpos ht => memoriesWork.stepWork.of_step ht ⟨hmem, hpos⟩

/-! ## The configuration (R75, R805) -/

theorem sameConfiguration_of_cart {s t : State} (hconfig : t.config = s.config) (hcart : t.cart = s.cart) :
    SameConfiguration s t := by
  refine ⟨hconfig, ?_⟩
  cases hc : s.cart with
  | none => exact .inl ⟨rfl, hcart.trans hc⟩
  | some c => exact .inr ⟨c, c, rfl, hcart.trans hc, .refl c⟩

theorem SameConfiguration.trans {s t u : State} (h : SameConfiguration s t) (k : SameConfiguration t u) :
    SameConfiguration s u := by
  obtain ⟨hconfig, hcart⟩ := h
  obtain ⟨kconfig, kcart⟩ := k
  refine ⟨kconfig.trans hconfig, ?_⟩
  obtain ⟨hs, ht⟩ | ⟨c, d, hs, ht, hcd⟩ := hcart <;> obtain ⟨kt, ku⟩ | ⟨d', e, kt, ku, hde⟩ := kcart
  · exact .inl ⟨hs, ku⟩
  · exact absurd (ht.symm.trans kt) (by simp)
  · exact absurd (ht.symm.trans kt) (by simp)
  · obtain rfl := Option.some.inj (ht.symm.trans kt)
    exact .inr ⟨c, e, hs, ku, hcd.trans hde⟩

/-- Every elementary change keeps the configuration. -/
theorem configurationWork : MachineWork SameConfiguration where
  refl s := sameConfiguration_of_cart rfl rfl
  trans h k := h.trans k
  withCpu _ _ := sameConfiguration_of_cart rfl rfl
  count _ := sameConfiguration_of_cart rfl rfl
  ppu _ _ _ := sameConfiguration_of_cart rfl rfl
  oam _ _ _ _ := sameConfiguration_of_cart rfl rfl
  vram _ _ _ _ := sameConfiguration_of_cart rfl rfl
  palette _ _ _ _ := sameConfiguration_of_cart rfl rfl
  frame _ _ _ _ := sameConfiguration_of_cart rfl rfl
  ram _ _ _ := sameConfiguration_of_cart rfl rfl
  cart s f hf := by
    refine ⟨rfl, ?_⟩
    rw [State.mapCart_cart]
    cases s.cart with
    | none => exact .inl ⟨rfl, rfl⟩
    | some c => exact .inr ⟨c, f c, rfl, rfl, (hf c).1⟩
  apu _ _ _ := sameConfiguration_of_cart rfl rfl
  ctrl _ _ _ _ := sameConfiguration_of_cart rfl rfl

/-- Settles O59. -/
theorem noStepChangesTheConfiguration : Obligations.NoStepChangesTheConfiguration :=
  fun _ _ ht => configurationWork.stepWork.of_step ht

/-! ## The counters (R56, R70, R72, R460, R621, R651, R661) -/

/-- The counters of the devices are in range. -/
def State.DeviceCountersOk (s : State) : Prop :=
  s.ppu.sprCount ≤ 8 ∧ s.ctrl.port0.index ≤ 8 ∧ s.ctrl.port1.index ≤ 8 ∧
    s.apu.CountersOk s.config.apuFrameScale ∧ (∀ c, s.cart = some c → c.mapper.CountersOk)

theorem State.countersOk_iff (s : State) : s.CountersOk ↔ s.DeviceCountersOk ∧ s.cpu.dmaStall = 0 := by
  unfold State.CountersOk State.DeviceCountersOk
  tauto

/-- Every elementary change keeps the devices' counters in range. -/
theorem countersWork : MachineWork fun s t => s.DeviceCountersOk → t.DeviceCountersOk where
  refl _ := id
  trans h k := k ∘ h
  withCpu _ _ := id
  count _ := id
  ppu s f hf := by
    rintro ⟨hcount, hrest⟩
    obtain ⟨-, -, -, -, hkeeps, -⟩ := hf
    exact ⟨hkeeps hcount, hrest⟩
  oam _ _ _ _ := id
  vram _ _ _ _ := id
  palette _ _ _ _ := id
  frame _ _ _ _ := id
  ram _ _ _ := id
  cart s f hf := by
    rintro ⟨hcount, hport0, hport1, hapu, hcart⟩
    refine ⟨hcount, hport0, hport1, hapu, fun d hd => ?_⟩
    obtain ⟨c, hc, rfl⟩ := Option.map_eq_some_iff.mp hd
    exact (hf c).2.2 (hcart c hc)
  apu s f hf := by
    rintro ⟨hcount, hport0, hport1, hapu, hcart⟩
    exact ⟨hcount, hport0, hport1, hf hapu, hcart⟩
  ctrl s c h0 h1 := by
    rintro ⟨hcount, hport0, hport1, hrest⟩
    exact ⟨hcount, h0 hport0, h1 hport1, hrest⟩

end Sys2Proof.Machine
end

section
/-! PROOF. What a step keeps of the CPU: no DMA stall is left between clocks, and no instruction, interrupt entry or
clock changes U and B of P (10_state.md R34, R35, 40_addressing.md R180, 61_bus_clocking.md R460). -/

namespace Sys2Proof.Machine

/-! ## The end of an instruction and of an interrupt entry -/

/-- The registers after an interrupt entry through a cartridge vector (R410). -/
theorem interrupt_cpu (v : Word) (b : Bool) (s : State) (h : 0x4020 ≤ v.toNat) (h' : v.toNat < 0xFFFF) :
    (interrupt v b s).cpu = { s.cpu with
      sp := s.cpu.sp - 1 - 1 - 1, p := withI s.cpu.p, pc := mkWord (s.cartRead (v + 1)) (s.cartRead v) } := by
  rw [interrupt_cartridge v b s h h']
  simp [State.setPc, State.setP]

theorem exec_dmaStall (i : Instr) (s t : State) (ht : exec i s = .next t) : t.cpu.dmaStall = 0 := by
  by_cases hm : i.mode = .rel
  · rw [exec_branch_next i s hm] at ht
    obtain rfl := Host.Outcome.next.inj ht
    rfl
  · rw [exec_next i s hm] at ht
    obtain rfl := Host.Outcome.next.inj ht
    rfl

/-- A boundary leaves no stall behind (R180, R460). -/
theorem boundary_dmaStall (s t : State) (hs : s.cpu.dmaStall = 0) (ht : boundary s = .next t) :
    t.cpu.dmaStall = 0 := by
  obtain ⟨-, hb⟩ | ⟨-, -, hb⟩ | ⟨-, -, hb⟩ := boundary_cases s
  · obtain rfl := Host.Outcome.next.inj (hb.symm.trans ht)
    rw [takeNmi, State.setCycles_cpu_dmaStall, interrupt_cpu nmiVector _ _ (by decide) (by decide)]
    exact hs
  · obtain rfl := Host.Outcome.next.inj (hb.symm.trans ht)
    rw [takeIrq, State.setCycles_cpu_dmaStall, interrupt_cpu irqVector _ _ (by decide) (by decide)]
    exact hs
  · exact exec_dmaStall _ _ t (hb.symm.trans ht)

/-- What a step does to the CPU, where a property of it is kept by the devices' clocks and the counters. -/
theorem step_cpu (q : Cpu → Prop) (hlatch : ∀ c n i, q c → q { c with nmiPending := n, irqPending := i })
    (hcount : ∀ (s : State), q s.cpu → q (countClock s).cpu)
    (hboundary : ∀ u t : State, q u.cpu → boundary u = .next t → q (closeBoundary t).cpu) (s t : State)
    (hs : q s.cpu) (ht : step s = .next t) : q t.cpu := by
  have hclock : q (clockDevices (ppuDot s)).cpu := by
    obtain ⟨⟨n, i, hcpu⟩, -⟩ := clockDevices_same (ppuDot s)
    rw [hcpu, ppuDot_cpu]
    exact hlatch _ n i hs
  obtain ⟨-, hstep⟩ | ⟨-, -, hstep⟩ | ⟨-, -, o, ho, hstep⟩ := step_cases s
  · obtain rfl := Host.Outcome.next.inj (hstep.symm.trans ht)
    rw [countDot_cpu, ppuDot_cpu]
    exact hs
  · obtain rfl := Host.Outcome.next.inj (hstep.symm.trans ht)
    exact hcount _ hclock
  · obtain ⟨u, hu, -⟩ := stepWork_true.boundary (clockDevices (ppuDot s))
    rw [← ho, hu] at hstep
    obtain rfl := Host.Outcome.next.inj (hstep.symm.trans ht)
    exact hboundary _ u hclock hu

/-- Settles O58: the devices' counters by the elementary changes, the DMA stall by the CPU's work. -/
theorem everyStepKeepsTheCounters : Obligations.EveryStepKeepsTheCounters := by
  intro s t hs ht
  obtain ⟨hdevices, hstall⟩ := s.countersOk_iff.mp hs
  refine t.countersOk_iff.mpr ⟨countersWork.stepWork.of_step ht hdevices, ?_⟩
  exact step_cpu (fun c => c.dmaStall = 0) (fun _ _ _ h => h) (fun _ h => h) (fun u v => boundary_dmaStall u v)
    s t hstall ht

/-! ## The constant status bits (R34, R35) -/

/-- A status byte with U = 1 and B = 0. -/
def StatusByteOk (p : Byte) : Prop := flagOf .u p = true ∧ flagOf .b p = false

theorem putFlag_statusOk {p : Byte} (h : StatusByteOk p) {f : Flag} (v : Bool) (hu : f ≠ .u) (hb : f ≠ .b) :
    StatusByteOk (putFlag f v p) := by
  unfold StatusByteOk
  rwa [flagOf_putFlag, if_neg hu.symm, flagOf_putFlag, if_neg hb.symm]

theorem pulledP_statusOk (m : Byte) : StatusByteOk (pulledP m) :=
  ⟨flagOf_pulledP .u m, flagOf_pulledP .b m⟩

theorem withI_statusOk {p : Byte} (h : StatusByteOk p) : StatusByteOk (withI p) :=
  ⟨(flagOf_withI .u p).trans h.1, (flagOf_withI .b p).trans h.2⟩

theorem withU_statusOk {p : Byte} (h : StatusByteOk p) : StatusByteOk (withU p) :=
  ⟨flagOf_withU .u p, (flagOf_withU .b p).trans h.2⟩

theorem setFlag_statusOk {s : State} (h : s.StatusOk) {f : Flag} (v : Bool) (hu : f ≠ .u) (hb : f ≠ .b) :
    (s.setFlag f v).StatusOk :=
  putFlag_statusOk h v hu hb

theorem flagsNZ_statusOk {s : State} (h : s.StatusOk) (r : Byte) : (flagsNZ r s).StatusOk :=
  setFlag_statusOk (setFlag_statusOk h _ (by decide) (by decide)) _ (by decide) (by decide)

theorem addCore_statusOk {s : State} (h : s.StatusOk) (m : Byte) : (addCore m s).StatusOk :=
  flagsNZ_statusOk (setFlag_statusOk (setFlag_statusOk h _ (by decide) (by decide)) _ (by decide) (by decide)) _

theorem compare_statusOk {s : State} (h : s.StatusOk) (r m : Byte) : (compare r m s).StatusOk :=
  setFlag_statusOk (setFlag_statusOk (setFlag_statusOk h _ (by decide) (by decide)) _ (by decide) (by decide)) _
    (by decide) (by decide)

/-- A part of the CPU's work that keeps P. -/
theorem statusOk_of_p {s t : State} (h : s.StatusOk) (hp : t.cpu.p = s.cpu.p) : t.StatusOk := by
  unfold State.StatusOk State.flag at *
  rwa [hp]

theorem load_statusOk {s : State} (h : s.StatusOk) (o : Operand) : (load o s).1.StatusOk :=
  statusOk_of_p h (by rw [load_cpu])

theorem store_statusOk {s : State} (h : s.StatusOk) (o : Operand) (v : Byte) : (store o v s).StatusOk := by
  refine statusOk_of_p h ?_
  cases o with
  | accumulator => rfl
  | immediate | memory => exact (congrArg Cpu.p (memWrite_cpu s.cpu.addrAbs v s) :)

theorem push_statusOk {s : State} (h : s.StatusOk) (v : Byte) : (push v s).StatusOk :=
  statusOk_of_p h (by rw [push_cpu])

theorem pull_statusOk {s : State} (h : s.StatusOk) : (pull s).1.StatusOk :=
  statusOk_of_p h (by rw [pull_eq]; rfl)

theorem pushWord_statusOk {s : State} (h : s.StatusOk) (w : Word) : (pushWord w s).StatusOk :=
  push_statusOk (push_statusOk h _) _

theorem setPc_statusOk {s : State} (h : s.StatusOk) (pc : Word) : (s.setPc pc).StatusOk := h

theorem setCycles_statusOk {s : State} (h : s.StatusOk) (n : Nat) : (s.setCycles n).StatusOk := h

theorem setNmiPending_statusOk {s : State} (h : s.StatusOk) (b : Bool) : (s.setNmiPending b).StatusOk := h

theorem finishCycles_statusOk {s : State} (h : s.StatusOk) (n : Nat) : (finishCycles n s).StatusOk := h

/-- The read-modify-write instructions: the carry of the shift, then the store. -/
theorem storeWithCarry_statusOk {s : State} (h : s.StatusOk) (o : Operand) (v : Byte) (c : Bool) :
    (store o v ((load o s).1.setFlag .c c)).StatusOk :=
  store_statusOk (setFlag_statusOk (load_statusOk h o) c (by decide) (by decide)) o v

theorem interrupt_statusOk {s : State} (h : s.StatusOk) (v : Word) (b : Bool) (hlo : 0x4020 ≤ v.toNat)
    (hhi : v.toNat < 0xFFFF) : (interrupt v b s).StatusOk := by
  have hp := congrArg Cpu.p (interrupt_cpu v b s hlo hhi)
  unfold State.StatusOk State.flag
  rw [hp]
  exact withI_statusOk h

/-- Every operation: flags other than U and B, or P pulled. -/
theorem operation_statusOk {s : State} (h : s.StatusOk) (o : Operation) (opd : Operand) :
    (operationOf o opd s).StatusOk := by
  have hload := load_statusOk h opd
  cases o with
  | lda | ldx | ldy | lax | and | ora | eor => exact flagsNZ_statusOk hload _
  | adc | sbc => exact addCore_statusOk hload _
  | bit =>
    exact setFlag_statusOk (setFlag_statusOk (setFlag_statusOk hload _ (by decide) (by decide)) _ (by decide)
      (by decide)) _ (by decide) (by decide)
  | cmp | cpx | cpy => exact compare_statusOk hload _ _
  | anc => exact setFlag_statusOk (flagsNZ_statusOk hload _) _ (by decide) (by decide)
  | alr => exact flagsNZ_statusOk (setFlag_statusOk hload _ (by decide) (by decide)) _
  | arr =>
    exact setFlag_statusOk (setFlag_statusOk (flagsNZ_statusOk hload _) _ (by decide) (by decide)) _ (by decide)
      (by decide)
  | sta | stx | sty | sax => exact store_statusOk h opd _
  | inc | dec => exact flagsNZ_statusOk (store_statusOk hload opd _) _
  | dcp => exact compare_statusOk (store_statusOk hload opd _) _ _
  | isc => exact addCore_statusOk (store_statusOk hload opd _) _
  | asl | lsr | rol | ror | slo | rla | sre => exact flagsNZ_statusOk (storeWithCarry_statusOk h opd _ _) _
  | rra => exact addCore_statusOk (storeWithCarry_statusOk h opd _ _) _
  | tax | tay | txa | tya | tsx | inx | iny | dex | dey => exact flagsNZ_statusOk h _
  | clc | sec | cli | sei | clv | cld | sed => exact setFlag_statusOk h _ (by decide) (by decide)
  | pha | php => exact push_statusOk h _
  | pla => exact flagsNZ_statusOk (pull_statusOk h) _
  | plp => exact pulledP_statusOk _
  | jsr =>
    change ((pushWord (s.cpu.pc - 1) s).setPc _).StatusOk
    exact setPc_statusOk (pushWord_statusOk h _) _
  | rts =>
    change (opRts opd s).StatusOk
    rw [opRts_eq]
    exact h
  | rti =>
    change (opRti opd s).StatusOk
    rw [opRti_eq]
    exact pulledP_statusOk _
  | brk =>
    change (interrupt irqVector true (s.setPc (s.cpu.pc + 1))).StatusOk
    exact interrupt_statusOk (setPc_statusOk h (s.cpu.pc + 1)) irqVector true (by decide) (by decide)
  | txs | jmp | nop | xaa | lxa | jam | sha | tas | shy | shx | las | sbx | usbc
  | bpl | bmi | bvc | bvs | bcc | bcs | bne | beq => exact h

theorem exec_statusOk {s t : State} (i : Instr) (h : s.StatusOk) (ht : exec i s = .next t) : t.StatusOk := by
  by_cases hm : i.mode = .rel
  · rw [exec_branch_next i s hm] at ht
    obtain rfl := Host.Outcome.next.inj ht
    refine statusOk_of_p h ?_
    dsimp only [finishCycles_cpu_p]
    generalize branchTest i.operation _ = c
    cases c <;> rfl
  · rw [exec_next i s hm] at ht
    obtain rfl := Host.Outcome.next.inj ht
    have haccess : (i.accessIn s).state.StatusOk := by
      obtain ⟨rel, hcpu⟩ := accessIn_cpu i s
      exact statusOk_of_p h (by rw [hcpu])
    refine finishCycles_statusOk ?_ _
    unfold instrWork
    split
    · exact load_statusOk haccess _
    · exact operation_statusOk haccess _ _

theorem fetchByte_p (s : State) : (fetchByte s).1.cpu.p = s.cpu.p := by
  unfold fetchByte
  simp

theorem fetch_p (s : State) : (fetch s).1.cpu.p = s.cpu.p := by
  unfold fetch
  dsimp only
  split <;> simp [fetchByte_p]

theorem boundary_statusOk (s t : State) (h : s.StatusOk) (ht : boundary s = .next t) : t.StatusOk := by
  obtain ⟨-, hb⟩ | ⟨-, -, hb⟩ | ⟨-, -, hb⟩ := boundary_cases s
  · obtain rfl := Host.Outcome.next.inj (hb.symm.trans ht)
    exact setCycles_statusOk (interrupt_statusOk (setNmiPending_statusOk h false) nmiVector false (by decide)
      (by decide)) 7
  · obtain rfl := Host.Outcome.next.inj (hb.symm.trans ht)
    exact setCycles_statusOk (interrupt_statusOk h irqVector false (by decide) (by decide)) 7
  · exact exec_statusOk _ (statusOk_of_p h (fetch_p s)) (hb.symm.trans ht)

/-- Settles O56. -/
theorem everyStepKeepsTheConstantStatusBits : Obligations.EveryStepKeepsTheConstantStatusBits := by
  intro s t hs ht
  refine step_cpu (fun c => StatusByteOk c.p) (fun _ _ _ h => h) (fun _ h => h) (fun u v hu hv => ?_) s t hs ht
  exact withU_statusOk (boundary_statusOk u v hu hv)

/-! ## The reset state -/

/-- Settles O60. -/
theorem resetMeetsTheInvariants : Obligations.ResetMeetsTheInvariants := by
  refine ⟨⟨rfl, rfl⟩, ⟨by decide, by decide, by decide⟩, ?_, ?_⟩
  · exact ⟨⟨rfl, rfl⟩, ⟨rfl, rfl⟩, ⟨rfl, rfl⟩, ⟨rfl, rfl⟩, ⟨rfl, rfl⟩, fun _ h => absurd h (by simp [State.reset])⟩
  · exact ⟨by decide, by decide, by decide, rfl, ⟨by decide, by decide, by decide⟩,
      fun _ h => absurd h (by simp [State.reset])⟩

end Sys2Proof.Machine
end

section
/-! PROOF. OAM DMA, the controllers and the sampled lines: the copy as a fold of single bytes, its effect page kind by
page kind, and the shift of a port's buttons (61_bus_clocking.md R460, R470 to R472, 60_exceptions.md R403). -/

namespace Sys2Proof.Machine

/-! ## One byte of the copy (R460) -/

/-- The source address of the copy's byte `i`. -/
def dmaAddress (p : Byte) (i : Nat) : Word := BitVec.ofNat 16 (256 * p.toNat + i)

/-- The copy of byte `i` into OAM from `start` on. -/
def dmaByte (p start : Byte) (u : State) (i : Nat) : State :=
  let r := memRead (dmaAddress p i) u
  { r.1 with ppu := { r.1.ppu with oam := r.1.ppu.oam.write ((start.toNat + i) % 256) r.2 } }

/-- The machine after the first `n` bytes. -/
def dmaCopied (p start : Byte) (n : Nat) (s : State) : State := (List.range n).foldl (dmaByte p start) s

theorem dmaCopied_succ (p start : Byte) (n : Nat) (s : State) :
    dmaCopied p start (n + 1) s = dmaByte p start (dmaCopied p start n s) n := by
  unfold dmaCopied
  rw [List.range_succ, List.foldl_append]
  rfl

theorem dmaAddress_toNat (p : Byte) {i : Nat} (hi : i < 256) : (dmaAddress p i).toNat = 256 * p.toNat + i := by
  rw [dmaAddress, BitVec.toNat_ofNat]
  omega

theorem dmaAddress_eq (p : Byte) (i : Nat) : zext16 p * 0x100 + BitVec.ofNat 16 i = dmaAddress p i := by
  apply BitVec.eq_of_toNat_eq
  rw [dmaAddress, BitVec.toNat_add, BitVec.toNat_mul, zext16_toNat, BitVec.toNat_ofNat, BitVec.toNat_ofNat,
    show (0x100 : Word).toNat = 256 from rfl]
  omega

/-- A bus read leaves OAMADDR alone. -/
theorem memRead_oamaddr (a : Word) (s : State) : (memRead a s).1.ppu.oamaddr = s.ppu.oamaddr := by
  obtain ⟨vb, w, b, v, hppu⟩ := memRead_ppu a s
  rw [hppu]

theorem dmaByte_oamaddr (p start : Byte) (u : State) (i : Nat) : (dmaByte p start u i).ppu.oamaddr = u.ppu.oamaddr :=
  memRead_oamaddr _ u

theorem oamCopy_eq_foldl (p : Byte) (l : List Nat) (s : State) :
    oamCopy p l s = l.foldl (dmaByte p s.ppu.oamaddr) s := by
  have hstart (l : List Nat) (start : Byte) (u : State) (hu : u.ppu.oamaddr = start) :
      oamCopy p l u = l.foldl (dmaByte p start) u := by
    induction l generalizing u with
    | nil => rfl
    | cons i rest ih =>
      have hbyte : ((memRead (dmaAddress p i) u).1.mapPpu fun q => { q with
          oam := q.oam.write ((q.oamaddr.toNat + i) % 256) (memRead (dmaAddress p i) u).2 }) =
          dmaByte p start u i := by
        unfold dmaByte State.mapPpu
        dsimp only
        rw [memRead_oamaddr, hu]
      rw [oamCopy]
      dsimp only
      rw [dmaAddress_eq, hbyte, List.foldl_cons]
      exact ih _ ((dmaByte_oamaddr ..).trans hu)
  exact hstart l _ s rfl

/-- OAM DMA: the 256 bytes, then the stall. -/
theorem memWrite_oamDma_eq (p : Byte) (s : State) :
    memWrite 0x4014 p s = { dmaCopied p s.ppu.oamaddr 256 s with
      cpu := { s.cpu with dmaStall := 513 + s.cpu.totalCycles.toNat % 2 } } := by
  have hcpu := oamCopy_cpu p (List.range 256) s
  rw [memWrite_oamDma]
  unfold oamDma
  dsimp only
  rw [hcpu, oamCopy_eq_foldl]
  rfl

/-- What every copied byte leaves alone. -/
theorem dmaCopied_same (p start : Byte) (n : Nat) (s : State) :
    (dmaCopied p start n s).ppu.oamaddr = s.ppu.oamaddr ∧ (dmaCopied p start n s).ram = s.ram ∧
      (dmaCopied p start n s).dotCount = s.dotCount ∧ (dmaCopied p start n s).config = s.config := by
  induction n with
  | zero => exact ⟨rfl, rfl, rfl, rfl⟩
  | succ n ih =>
    obtain ⟨haddr, hram, hdots, hconfig⟩ := ih
    rw [dmaCopied_succ]
    exact ⟨(dmaByte_oamaddr ..).trans haddr, (memRead_ram ..).trans hram, (memRead_dotCount ..).trans hdots,
      (memRead_config ..).trans hconfig⟩

/-! ## A page of memory -/

/-- The bytes of a page without device registers, read in the machine before the copy. -/
theorem memRead_memory (a : Word) (s u : State) (h : ¬ DeviceAddress a) (hram : u.ram = s.ram)
    (hcart : u.cart = s.cart) :
    memRead a u = (u, (memRead a s).2) := by
  unfold DeviceAddress at h
  unfold memRead State.cartRead
  rw [hram, hcart]
  split_ifs <;> first | rfl | omega

/-- After `n` bytes from memory only OAM has changed, and it holds them. -/
theorem dmaCopied_memory (p start : Byte) (s : State) (hpage : ¬ (0x20 ≤ p.toNat ∧ p.toNat ≤ 0x40))
    (hwf : s.ppu.oam.wf = true) (n : Nat) (hn : n ≤ 256) :
    let t := dmaCopied p start n s
    t = { s with ppu := { s.ppu with oam := t.ppu.oam } } ∧ t.ppu.oam.wf = true ∧
      ∀ i < n, t.ppu.oam.read ((start.toNat + i) % 256) = (memRead (dmaAddress p i) s).2 := by
  induction n with
  | zero => exact ⟨rfl, hwf, fun i hi => absurd hi (Nat.not_lt_zero i)⟩
  | succ n ih =>
    obtain ⟨hsame, hwf', hread⟩ := ih (by omega)
    have haddr := dmaAddress_toNat p (i := n) (by omega)
    have hbyte := memRead_memory (dmaAddress p n) s (dmaCopied p start n s)
      (by unfold DeviceAddress; omega) (by rw [hsame]) (by rw [hsame])
    have hnext : dmaCopied p start (n + 1) s = { dmaCopied p start n s with
        ppu := { (dmaCopied p start n s).ppu with
          oam := (dmaCopied p start n s).ppu.oam.write ((start.toNat + n) % 256)
            (memRead (dmaAddress p n) s).2 } } := by
      rw [dmaCopied_succ]
      unfold dmaByte
      rw [hbyte]
    dsimp only
    rw [hnext]
    generalize dmaCopied p start n s = u at *
    refine ⟨by rw [hsame], Memory.write_wf _ _ _ hwf', fun i hi => ?_⟩
    dsimp only
    rw [Memory.read_write _ _ _ _ hwf']
    obtain rfl | hne := eq_or_ne i n
    · rw [if_pos rfl]
    · rw [if_neg (by omega), hread i (by omega)]

/-! ## A page of PPU registers -/

/-- The registers repeat every eight bytes. -/
theorem dmaAddress_register (p : Byte) {i : Nat} (hi : i < 256) : (dmaAddress p i &&& 7).toNat = i % 8 := by
  rw [toNat_and_lowMask _ 7 3 rfl, dmaAddress_toNat p hi]
  omega

/-- What a PPU register read does to the devices. -/
theorem ppuRegRead_ppu (k : Nat) (u : State) :
    (ppuRegRead k u).1.ppu = { u.ppu with
      dataBuffer := (ppuRegRead k u).1.ppu.dataBuffer
      vblank := u.ppu.vblank && decide (k ≠ 2), w := u.ppu.w && decide (k ≠ 2)
      v := u.ppu.v + (if k = 7 then u.ppu.increment else 0) } ∧
    (ppuRegRead k u).1.apu = u.apu ∧ (ppuRegRead k u).1.ctrl = u.ctrl := by
  unfold ppuRegRead
  split
  · simp [readStatus]
  · simp
  · obtain ⟨a, b, hdata⟩ := readData_state u
    rw [hdata]
    simp [Ppu.advanceV, Ppu.increment]
  next h2 _ h7 =>
    have hne2 : k ≠ 2 := h2
    have hne7 : k ≠ 7 := h7
    simp [hne2, hne7]

/-- After `n` bytes from the PPU's registers: the 32 reads of $2002 and $2007 have their effects. -/
theorem dmaCopied_ppu (p start : Byte) (s : State) (hlo : 0x20 ≤ p.toNat) (hhi : p.toNat ≤ 0x3F) (n : Nat)
    (hn : n ≤ 256) :
    let t := dmaCopied p start n s
    t.ppu = { s.ppu with
      oam := t.ppu.oam, dataBuffer := t.ppu.dataBuffer
      vblank := s.ppu.vblank && decide (n ≤ 2), w := s.ppu.w && decide (n ≤ 2)
      v := s.ppu.v + BitVec.ofNat 15 (n / 8) * s.ppu.increment } ∧
    t.apu = s.apu ∧ t.ctrl = s.ctrl := by
  induction n with
  | zero =>
    dsimp only [dmaCopied, List.range_zero, List.foldl_nil]
    refine ⟨?_, rfl, rfl⟩
    simp
  | succ n ih =>
    obtain ⟨hppu, hapu, hctrl⟩ := ih (by omega)
    have haddr := dmaAddress_toNat p (i := n) (by omega)
    have hread (u : State) : memRead (dmaAddress p n) u = ppuRegRead (n % 8) u := by
      unfold memRead
      rw [if_neg (by omega), if_neg (by omega), if_pos (by omega), dmaAddress_register p (by omega)]
    dsimp only
    rw [dmaCopied_succ]
    unfold dmaByte
    rw [hread]
    generalize dmaCopied p start n s = u at *
    obtain ⟨hppu', hapu', hctrl'⟩ := ppuRegRead_ppu (n % 8) u
    refine ⟨?_, hapu'.trans hapu, hctrl'.trans hctrl⟩
    have hflag (b : Bool) : (b && decide (n ≤ 2) && decide (n % 8 ≠ 2)) = (b && decide (n + 1 ≤ 2)) := by
      rw [Bool.and_assoc, ← Bool.decide_and]
      exact congrArg (b && ·) (decide_eq_decide.mpr (by omega))
    have hcount (inc : BitVec 15) : s.ppu.v + BitVec.ofNat 15 (n / 8) * inc + (if n % 8 = 7 then inc else 0) =
        s.ppu.v + BitVec.ofNat 15 ((n + 1) / 8) * inc := by
      split
      next h =>
        rw [show (n + 1) / 8 = n / 8 + 1 by omega, BitVec.ofNat_add, BitVec.add_mul, BitVec.add_assoc]
        exact congrArg (fun x => s.ppu.v + (BitVec.ofNat 15 (n / 8) * inc + x)) (BitVec.one_mul inc).symm
      next h =>
        rw [show (n + 1) / 8 = n / 8 by omega]
        exact BitVec.add_zero _
    dsimp only
    rw [hppu']
    dsimp only
    rw [hppu]
    dsimp only [Ppu.increment]
    rw [hflag, hflag, hcount]

/-! ## The page of the APU's registers and the controllers -/

/-- The controllers after a read of one port (R471). -/
def Controllers.afterRead (second : Bool) (c : Controllers) : Controllers :=
  if second then { c with port1 := (c.port1.shiftRead c.strobe).1 }
  else { c with port0 := (c.port0.shiftRead c.strobe).1 }

theorem controllerRead_state (second : Bool) (s : State) :
    (controllerRead second s).1 = { s with ctrl := s.ctrl.afterRead second } := by
  cases second <;> rfl

/-- What a bus read of page $40 does to the devices. -/
theorem memRead_page40 (a : Word) (u : State) (hlo : 0x4000 ≤ a.toNat) :
    (memRead a u).1 = { u with
      apu := { u.apu with frameIrq := u.apu.frameIrq && decide (a.toNat ≠ 0x4015) }
      ctrl := if a.toNat = 0x4016 then u.ctrl.afterRead false else if a.toNat = 0x4017 then u.ctrl.afterRead true
        else u.ctrl } := by
  unfold memRead
  by_cases h5 : a.toNat = 0x4015
  · simp [h5, apuStatusRead, State.mapApu]
  by_cases h6 : a.toNat = 0x4016
  · simp [h6, controllerRead_state]
  by_cases h7 : a.toNat = 0x4017
  · simp [h7, controllerRead_state]
  · rw [if_neg h6, if_neg h7, if_neg (by omega : ¬ a.toNat ≤ 0x1FFF), if_neg (by omega : ¬ a.toNat ≤ 0x3FFF), if_neg h5,
      if_neg h6, if_neg h7, decide_eq_true h5, Bool.and_true]
    split <;> rfl

/-- After `n` bytes from $4000 on: the reads of $4015, $4016 and $4017 have their effects. -/
theorem dmaCopied_page40 (p start : Byte) (s : State) (hp : p.toNat = 0x40) (n : Nat) (hn : n ≤ 256) :
    let t := dmaCopied p start n s
    t.ppu = { s.ppu with oam := t.ppu.oam } ∧
    t.apu = { s.apu with frameIrq := s.apu.frameIrq && decide (n ≤ 21) } ∧
    t.ctrl = (if n ≤ 22 then s.ctrl else if n = 23 then s.ctrl.afterRead false
      else (s.ctrl.afterRead false).afterRead true) ∧
    t.cart = s.cart := by
  induction n with
  | zero =>
    dsimp only [dmaCopied, List.range_zero, List.foldl_nil]
    simp
  | succ n ih =>
    obtain ⟨hppu, hapu, hctrl, hcart⟩ := ih (by omega)
    have haddr := dmaAddress_toNat p (i := n) (by omega)
    have hread := memRead_page40 (dmaAddress p n) (dmaCopied p start n s) (by omega)
    have hirq (b : Bool) : (b && decide (n ≤ 21) && decide ((dmaAddress p n).toNat ≠ 0x4015)) =
        (b && decide (n + 1 ≤ 21)) := by
      rw [Bool.and_assoc, ← Bool.decide_and]
      exact congrArg (b && ·) (decide_eq_decide.mpr (by omega))
    dsimp only
    rw [dmaCopied_succ]
    refine ⟨?_, ?_, ?_, ?_⟩
    · have hbus := (congrArg State.ppu hread).trans hppu
      exact congrArg (fun q : Ppu => { q with oam := (dmaByte p start (dmaCopied p start n s) n).ppu.oam }) hbus
    · refine (congrArg State.apu hread).trans ?_
      dsimp only
      rw [hapu, hirq]
    · refine (congrArg State.ctrl hread).trans ?_
      dsimp only
      rw [hctrl]
      split_ifs <;> first | rfl | omega
    · exact (congrArg State.cart hread).trans hcart

/-- Settles O33: the copy byte by byte, then one invariant of the copy for each kind of page. -/
theorem oamDmaCopiesAPage : Obligations.OamDmaCopiesAPage := by
  intro p s address copyByte copied t
  have hcopied : copied = dmaCopied p s.ppu.oamaddr 256 s := rfl
  have ht : t = { copied with cpu := { s.cpu with dmaStall := 513 + s.cpu.totalCycles.toNat % 2 } } :=
    memWrite_oamDma_eq p s
  clear_value t copied
  obtain ⟨haddr, hram, hdots, hconfig⟩ := dmaCopied_same p s.ppu.oamaddr 256 s
  rw [← hcopied] at haddr hram hdots hconfig
  have hppu : t.ppu = copied.ppu := by rw [ht]
  have hapu : t.apu = copied.apu := by rw [ht]
  have hctrl : t.ctrl = copied.ctrl := by rw [ht]
  have hcart : t.cart = copied.cart := by rw [ht]
  refine ⟨ht, hppu ▸ haddr, (congrArg State.ram ht).trans hram, (congrArg State.dotCount ht).trans hdots,
    (congrArg State.config ht).trans hconfig, fun hpage hmem => ?_, fun hlo hhi => ?_, fun hp => ?_⟩
  · obtain ⟨-, ⟨hwf, -⟩, -⟩ := hmem
    obtain ⟨hsame, -, hread⟩ := dmaCopied_memory p s.ppu.oamaddr s hpage hwf 256 le_rfl
    rw [← hcopied] at hsame hread
    rw [hppu, hapu, hctrl, hcart]
    refine ⟨fun i hi => ?_, congrArg State.ppu hsame, by rw [hsame], by rw [hsame],
      by rw [hsame]⟩
    exact (congrArg (fun q : Ppu => q.oam.read _) hppu).trans (hread i hi)
  · obtain ⟨hsame, hsapu, hsctrl⟩ := dmaCopied_ppu p s.ppu.oamaddr s hlo hhi 256 le_rfl
    rw [← hcopied] at hsame hsapu hsctrl
    rw [hppu, hapu, hctrl]
    refine ⟨?_, hsapu, hsctrl⟩
    have hv : BitVec.ofNat 15 (256 / 8) * s.ppu.increment = if s.ppu.ctrl.getLsbD 2 then 1024 else 32 := by
      unfold Ppu.increment
      split <;> rfl
    rw [hv] at hsame
    simpa using hsame
  · obtain ⟨hsame, hsapu, hsctrl, hscart⟩ := dmaCopied_page40 p s.ppu.oamaddr s hp 256 le_rfl
    rw [← hcopied] at hsame hsapu hsctrl hscart
    rw [hppu, hapu, hctrl, hcart]
    have hirq : (s.apu.frameIrq && decide (256 ≤ 21)) = false := Bool.and_false _
    rw [hirq] at hsapu
    refine ⟨hsame, hsapu, hscart, ?_⟩
    rw [memRead_controller2, memRead_controller1, controllerRead_state, controllerRead_state]
    exact hsctrl

/-! ## The controllers (R470 to R472) -/

/-- A port by its number. -/
def Controllers.port (second : Bool) (c : Controllers) : Port := if second then c.port1 else c.port0

/-- A port replaced. -/
def Controllers.setPort (second : Bool) (q : Port) (c : Controllers) : Controllers :=
  if second then { c with port1 := q } else { c with port0 := q }

/-- The CPU address of a port. -/
def portAddress (second : Bool) : Word := if second then 0x4017 else 0x4016

/-- A button bit as a bus read gives it. -/
def buttonBit (b : Byte) (k : Nat) : Byte := boolBit 8 (b.getLsbD k)

/-- `n` reads of an address: the machine after them and the bytes, the first read first. -/
def readRepeatedly (a : Word) (n : Nat) (s : State) : State × List Byte :=
  (List.range n).foldl (fun (acc : State × List Byte) _ =>
    let r := memRead a acc.1
    (r.1, acc.2 ++ [r.2])) (s, [])

theorem readRepeatedly_succ (a : Word) (n : Nat) (s : State) :
    readRepeatedly a (n + 1) s = ((memRead a (readRepeatedly a n s).1).1,
      (readRepeatedly a n s).2 ++ [(memRead a (readRepeatedly a n s).1).2]) := by
  unfold readRepeatedly
  rw [List.range_succ, List.foldl_append]
  rfl

@[simp] theorem Controllers.port_setPort (second : Bool) (q : Port) (c : Controllers) :
    (c.setPort second q).port second = q := by
  cases second <;> rfl

@[simp] theorem Controllers.strobe_setPort (second : Bool) (q : Port) (c : Controllers) :
    (c.setPort second q).strobe = c.strobe := by
  cases second <;> rfl

@[simp] theorem Controllers.setPort_setPort (second : Bool) (q q' : Port) (c : Controllers) :
    (c.setPort second q).setPort second q' = c.setPort second q' := by
  cases second <;> rfl

@[simp] theorem Controllers.setPort_port (second : Bool) (c : Controllers) : c.setPort second (c.port second) = c := by
  cases second <;> rfl

theorem memRead_port (second : Bool) (s : State) :
    memRead (portAddress second) s =
      ({ s with ctrl := s.ctrl.setPort second ((s.ctrl.port second).shiftRead s.ctrl.strobe).1 },
        ((s.ctrl.port second).shiftRead s.ctrl.strobe).2) := by
  cases second
  · exact memRead_controller1 s
  · exact memRead_controller2 s

/-- With strobe 1 a read reloads the latch and gives button A. -/
theorem memRead_port_strobe (second : Bool) (s : State) (h : s.ctrl.strobe = true) :
    memRead (portAddress second) s = ({ s with ctrl := s.ctrl.setPort second (s.ctrl.port second).reload },
      buttonBit (s.ctrl.port second).buttons 0) := by
  rw [memRead_port, h]
  rfl

/-- With strobe 0 a read shifts, and gives 1 from index 8 on. -/
theorem memRead_port_shift (second : Bool) (s : State) (h : s.ctrl.strobe = false) :
    memRead (portAddress second) s =
      let q := s.ctrl.port second
      if q.index < 8 then
        ({ s with ctrl := s.ctrl.setPort second { q with index := q.index + 1 } }, buttonBit q.latch q.index)
      else (s, 1) := by
  rw [memRead_port, h]
  unfold Port.shiftRead
  simp only [applyWhen_false, Bool.false_eq_true, if_false]
  split
  next hdone => rw [if_neg (by omega), Controllers.setPort_port]
  next hmore =>
    rw [if_pos (by omega)]
    rfl

/-- Every read with strobe 1 gives button A again. -/
theorem readRepeatedly_strobe (second : Bool) (s : State) (h : s.ctrl.strobe = true) (n : Nat) :
    (readRepeatedly (portAddress second) n s).1.ctrl.strobe = true ∧
    ((readRepeatedly (portAddress second) n s).1.ctrl.port second).buttons = (s.ctrl.port second).buttons ∧
    (readRepeatedly (portAddress second) n s).2 = List.replicate n (buttonBit (s.ctrl.port second).buttons 0) := by
  induction n with
  | zero => exact ⟨h, rfl, rfl⟩
  | succ n ih =>
    obtain ⟨hstrobe, hbuttons, hbytes⟩ := ih
    rw [readRepeatedly_succ, memRead_port_strobe second _ hstrobe, hbytes, hbuttons, List.replicate_succ']
    refine ⟨(Controllers.strobe_setPort ..).trans hstrobe, ?_, rfl⟩
    rw [Controllers.port_setPort]
    exact hbuttons

/-- The reads after a strobe give the latched buttons in order, then 1. -/
theorem readRepeatedly_shift (second : Bool) (s : State) (h : s.ctrl.strobe = false)
    (hindex : (s.ctrl.port second).index = 0) (n : Nat) :
    (readRepeatedly (portAddress second) n s).1 =
      { s with ctrl := s.ctrl.setPort second { s.ctrl.port second with index := min n 8 } } ∧
    (readRepeatedly (portAddress second) n s).2 =
      (List.range n).map fun k => if k < 8 then buttonBit (s.ctrl.port second).latch k else 1 := by
  induction n with
  | zero =>
    refine ⟨?_, rfl⟩
    have hport : { s.ctrl.port second with index := min 0 8 } = s.ctrl.port second := by
      rw [Nat.zero_min, ← hindex]
    rw [hport, Controllers.setPort_port]
    rfl
  | succ n ih =>
    obtain ⟨hstate, hbytes⟩ := ih
    rw [readRepeatedly_succ, hbytes, hstate, memRead_port_shift _ _ ((Controllers.strobe_setPort ..).trans h)]
    simp only [Controllers.port_setPort, Controllers.setPort_setPort, List.range_succ, List.map_append, List.map_cons,
      List.map_nil]
    obtain hlt | hge := Nat.lt_or_ge n 8
    · rw [if_pos (by omega), if_pos hlt, show min n 8 = n by omega, show min (n + 1) 8 = n + 1 by omega]
      exact ⟨rfl, rfl⟩
    · rw [if_neg (by omega), if_neg (by omega), show min n 8 = min (n + 1) 8 by omega]
      exact ⟨rfl, rfl⟩

/-- The strobe write: a reload while bit 0 is set (R470). -/
theorem memWrite_strobe_port (second : Bool) (d : Byte) (s : State) :
    (memWrite 0x4016 d s).ctrl.port second =
      if d.getLsbD 0 then (s.ctrl.port second).reload else s.ctrl.port second := by
  rw [memWrite_strobe]
  cases second <;> rfl

/-- Settles O34: one equation for a read with each value of the strobe, iterated. -/
theorem controllersShiftTheirButtons : Obligations.ControllersShiftTheirButtons := by
  intro s reads bits strobed port0Is port1Is shifted reloaded bitAt
  have hstrobed (second : Bool) : (strobed.ctrl.port second) = (s.ctrl.port second).reload := by
    cases second <;> rfl
  have hbuttons (second : Bool) :
      reads (portAddress second) 10 strobed = bits (s.ctrl.port second).buttons ++ [1, 1] := by
    refine (readRepeatedly_shift second strobed rfl ?_ 10).2.trans ?_ <;> rw [hstrobed] <;> rfl
  refine ⟨hbuttons false, hbuttons true, fun h => ?_, fun h => ?_, fun d => ?_⟩
  · exact ⟨memRead_port_strobe false s h, memRead_port_strobe true s h, fun n =>
      ⟨(readRepeatedly_strobe false s h n).2.2, (readRepeatedly_strobe true s h n).2.2⟩⟩
  · exact ⟨memRead_port_shift false s h, memRead_port_shift true s h⟩
  · exact ⟨by rw [memWrite_strobe]; rfl, memWrite_strobe_port false d s, memWrite_strobe_port true d s⟩

/-! ## The interrupt lines and the status register (R403, R522) -/

/-- Settles O29. -/
theorem samplingLatchesNmiAndFollowsIrq : Obligations.SamplingLatchesNmiAndFollowsIrq := by
  intro s
  have hsample : nmiSample s = { s with
      cpu := { s.cpu with nmiPending := s.cpu.nmiPending || s.ppu.nmiOut }
      ppu := { s.ppu with nmiOut := false } } := by
    unfold nmiSample
    obtain h | h := Bool.eq_false_or_eq_true s.ppu.nmiOut
    · rw [if_pos h, h, Bool.or_true]
      rfl
    · rw [if_neg (by rw [h]; decide), h, Bool.or_false, ← h]
  refine ⟨by rw [hsample], by rw [hsample], hsample, ?_⟩
  unfold irqSample
  rw [Bool.or_assoc]
  rfl

/-- The three flags and the five bits below them as a sum. -/
theorem statusByte_toNat (b7 b6 b5 : Bool) (low : Byte) :
    ((boolBit 8 b7 <<< 7) ||| (boolBit 8 b6 <<< 6) ||| (boolBit 8 b5 <<< 5) ||| (low &&& 0x1F)).toNat =
      128 * b7.toNat + 64 * b6.toNat + 32 * b5.toNat + low.toNat % 32 := by
  have hlow := toNat_and_lowMask low 0x1F 5 rfl
  have hdisjoint (h : Byte) (hh : h &&& 0x1F = 0) : (h ||| (low &&& 0x1F)).toNat = h.toNat + (low &&& 0x1F).toNat := by
    have hand : h &&& (low &&& 0x1F) = 0#8 := by
      rw [BitVec.and_comm low, ← BitVec.and_assoc, hh]
      exact BitVec.zero_and
    rw [← BitVec.toNat_add_of_and_eq_zero hand, BitVec.add_eq_or_of_and_eq_zero _ _ hand]
  have hhigh : ∀ b7 b6 b5 : Bool,
      ((boolBit 8 b7 <<< 7) ||| (boolBit 8 b6 <<< 6) ||| (boolBit 8 b5 <<< 5)) &&& 0x1F = (0 : Byte) ∧
      ((boolBit 8 b7 <<< 7) ||| (boolBit 8 b6 <<< 6) ||| (boolBit 8 b5 <<< 5) : Byte).toNat =
        128 * b7.toNat + 64 * b6.toNat + 32 * b5.toNat := by decide
  obtain ⟨hand, hsum⟩ := hhigh b7 b6 b5
  rw [hdisjoint _ hand, hsum, hlow]
  rfl

/-- Settles O35. -/
theorem statusReadClearsVblankAndToggle : Obligations.StatusReadClearsVblankAndToggle := by
  intro s
  exact ⟨statusByte_toNat _ _ _ _, rfl⟩

end Sys2Proof.Machine
end

section
/-! PROOF. The PPU's dot state machine: the position after a dot, a dot with rendering off, the scroll registers field
by field and the selection of the sprites of a line (62_ppu.md R500 to R502, R540 to R545, R550, R564 to R571). -/

namespace Sys2Proof.Machine

/-! ## The position (R500, R502) -/

/-- The position, the parity and the completion of the frame are the same. -/
def Ppu.SamePosition (p q : Ppu) : Prop :=
  q.scanline = p.scanline ∧ q.dot = p.dot ∧ q.oddFrame = p.oddFrame ∧ q.frameComplete = p.frameComplete

theorem Ppu.SamePosition.trans {p q u : Ppu} (h : p.SamePosition q) (k : q.SamePosition u) : p.SamePosition u := by
  obtain ⟨hline, hdot, hodd, hdone⟩ := h
  obtain ⟨kline, kdot, kodd, kdone⟩ := k
  exact ⟨kline.trans hline, kdot.trans hdot, kodd.trans hodd, kdone.trans hdone⟩

/-- The pipeline's work leaves the position alone. -/
theorem samePosition_work : PipelineWork fun s t => s.ppu.SamePosition t.ppu where
  refl _ := ⟨rfl, rfl, rfl, rfl⟩
  trans h k := h.trans k
  read s a := by
    rw [ppuRead_ppu]
    exact ⟨rfl, rfl, rfl, rfl⟩
  ppu s f hf := by
    have hpipe := (hf s.ppu).1
    rw [State.mapPpu_ppu, hpipe]
    exact ⟨rfl, rfl, rfl, rfl⟩

/-- The last part of a dot is the advance from the dot's own position. -/
theorem ppuDot_advance (s : State) : ∃ p : Ppu, s.ppu.SamePosition p ∧
    (ppuDot s).ppu = p.advance s.ppu.dot s.ppu.rendering := by
  have hwhen (c : Bool) (f : Ppu → Ppu) (hf : ∀ p : Ppu, p.SamePosition (f p)) (u : State) :
      u.ppu.SamePosition (applyWhen c (State.mapPpu f) u).ppu := by
    cases c
    · exact ⟨rfl, rfl, rfl, rfl⟩
    · exact hf u.ppu
  have hpipeline (c : Bool) (sl : Int) (d : Nat) (u : State) :
      u.ppu.SamePosition (applyWhen c (pipelineDot sl d) u).ppu :=
    samePosition_work.when c _ u (samePosition_work.pipelineDot sl d)
  let d := s.ppu.dot
  let sl := s.ppu.scanline
  have hclear := hwhen (decide (sl = -1 ∧ d = 1)) Ppu.clearFlags (fun _ => ⟨rfl, rfl, rfl, rfl⟩) s
  have hrender := hwhen (decide ((0 ≤ sl ∧ sl ≤ 239) ∧ 1 ≤ d ∧ d ≤ 256)) (Ppu.renderPixel (d - 1) sl.toNat)
    fun _ => ⟨rfl, rfl, rfl, rfl⟩
  have hvblank := hwhen (decide (sl = 241 ∧ d = 1)) Ppu.startVblank fun _ => ⟨rfl, rfl, rfl, rfl⟩
  exact ⟨_, ((hclear.trans (hpipeline _ _ _ _)).trans (hrender _)).trans (hvblank _), rfl⟩

/-- Settles O41. -/
theorem dotsAdvanceThePosition : Obligations.DotsAdvanceThePosition := by
  intro s hpos
  obtain ⟨hlo, hhi, hdotle⟩ := hpos
  obtain ⟨p, ⟨hline, hdot, hodd, hdone⟩, hp⟩ := ppuDot_advance s
  dsimp only
  rw [hp]
  unfold Ppu.advance
  rw [hline, hdot, hodd]
  dsimp only
  by_cases hskip : s.ppu.scanline = -1 ∧ s.ppu.dot = 338 ∧ s.ppu.oddFrame = true ∧ s.ppu.rendering = true
  · have hlast : s.ppu.dot ≠ 340 := by omega
    simp [hskip, hdone]
  obtain hlast | hlast := eq_or_ne s.ppu.dot 340
  · obtain hend | hend := eq_or_ne s.ppu.scanline 260
    · simp [hlast, hend]
    · have hnext : ¬ 260 < s.ppu.scanline + 1 := by omega
      simp [hlast, hend, hnext, hdone]
  · have hnext : ¬ 340 < s.ppu.dot + 1 := by omega
    simp [hskip, hlast, hnext, hdone]

/-! ## Rendering off (R564, R565) -/

/-- What the position's advance leaves alone. -/
theorem Ppu.advance_eq (d : Nat) (rendering : Bool) (p : Ppu) :
    p.advance d rendering = { p with
      scanline := (p.advance d rendering).scanline, dot := (p.advance d rendering).dot
      oddFrame := (p.advance d rendering).oddFrame, frameComplete := (p.advance d rendering).frameComplete } := by
  unfold Ppu.advance
  dsimp only
  split_ifs <;> rfl

theorem applyWhen_mapPpu (c : Bool) (f : Ppu → Ppu) (s : State) :
    applyWhen c (State.mapPpu f) s = s.mapPpu (applyWhen c f) := by
  cases c <;> rfl

/-- With rendering off a dot is a change of the PPU alone. -/
theorem ppuDot_off (s : State) (h : s.ppu.rendering = false) :
    ppuDot s = { s with
      ppu := Ppu.advance s.ppu.dot false
        (applyWhen (decide (s.ppu.scanline = 241 ∧ s.ppu.dot = 1)) Ppu.startVblank
          (applyWhen (decide ((0 ≤ s.ppu.scanline ∧ s.ppu.scanline ≤ 239) ∧ 1 ≤ s.ppu.dot ∧ s.ppu.dot ≤ 256))
            (Ppu.renderPixel (s.ppu.dot - 1) s.ppu.scanline.toNat)
            (applyWhen (decide (s.ppu.scanline = -1 ∧ s.ppu.dot = 1)) Ppu.clearFlags s.ppu))) } := by
  unfold ppuDot
  dsimp only
  rw [h, Bool.and_false, applyWhen_false, applyWhen_mapPpu, applyWhen_mapPpu, applyWhen_mapPpu]
  rfl

/-- The 6-bit entry of a palette byte after the grayscale mask (R564). -/
def shownColour (gray : Bool) (b : Byte) : BitVec 6 := if gray then b.extractLsb' 0 6 &&& 0x30 else b.extractLsb' 0 6

theorem shownColour_toNat (gray : Bool) (b : Byte) :
    (shownColour gray b).toNat = if gray then b.toNat % 64 / 16 * 16 else b.toNat % 64 := by
  have hmask : ∀ c : BitVec 6, (c &&& 0x30).toNat = c.toNat / 16 * 16 := by decide
  have hlow : (b.extractLsb' 0 6).toNat = b.toNat % 64 := by
    rw [toNat_extract, Nat.pow_zero, Nat.div_one]
    rfl
  unfold shownColour
  split
  · rw [hmask, hlow]
  · exact hlow

theorem emphasis_toNat (mask : Byte) : (mask.extractLsb' 5 3).toNat = mask.toNat / 32 := by
  have hmask := mask.isLt
  rw [toNat_extract]
  omega

/-- With rendering off a pixel is the backdrop, and there is no sprite-zero hit (R565). -/
theorem Ppu.renderPixel_off (x line : Nat) (p : Ppu) (h : p.rendering = false) :
    p.renderPixel x line = { p with
      frame := cellWrite Pixel.blank p.frame (256 * line + x)
        { colour := shownColour (p.mask.getLsbD 0) (p.palette.read 0), emphasis := p.mask.extractLsb' 5 3 } } := by
  obtain ⟨hbg, hsp⟩ := Bool.or_eq_false_iff.mp h
  have hpixel : p.bgPixel x = 0 := by
    unfold Ppu.bgPixel Ppu.bgShown
    rw [hbg]
    rfl
  have hsprite : p.spriteDot x = SpriteDot.clear := by
    unfold Ppu.spriteDot
    rw [hsp]
    rfl
  have hbackdrop : p.colourOf (0, 0) = shownColour (p.mask.getLsbD 0) (p.palette.read 0) := rfl
  unfold Ppu.renderPixel
  rw [hpixel, hsprite]
  dsimp only [composePixel, zeroHit, SpriteDot.clear]
  rw [if_pos ⟨rfl, rfl⟩, hbackdrop]
  simp

theorem applyWhen_clearFlags (c : Bool) (p : Ppu) :
    applyWhen c Ppu.clearFlags p = { p with
      vblank := p.vblank && !c, sprite0Hit := p.sprite0Hit && !c, spriteOverflow := p.spriteOverflow && !c } := by
  cases c <;> simp [Ppu.clearFlags]

theorem applyWhen_startVblank (c : Bool) (p : Ppu) :
    applyWhen c Ppu.startVblank p = { p with
      vblank := p.vblank || c, nmiOut := p.nmiOut || (c && p.ctrl.getLsbD 7) } := by
  cases c <;> simp [Ppu.startVblank]

/-- A dot with rendering off, field by field. -/
theorem ppuDot_off_fields (s : State) (h : s.ppu.rendering = false) :
    let clear := decide (s.ppu.scanline = -1 ∧ s.ppu.dot = 1)
    let vblankStarts := decide (s.ppu.scanline = 241 ∧ s.ppu.dot = 1)
    ppuDot s = { s with ppu := { s.ppu with
      scanline := (ppuDot s).ppu.scanline, dot := (ppuDot s).ppu.dot, oddFrame := (ppuDot s).ppu.oddFrame
      frameComplete := (ppuDot s).ppu.frameComplete
      frame := if (0 ≤ s.ppu.scanline ∧ s.ppu.scanline ≤ 239) ∧ 1 ≤ s.ppu.dot ∧ s.ppu.dot ≤ 256 then
          cellWrite Pixel.blank s.ppu.frame (256 * s.ppu.scanline.toNat + (s.ppu.dot - 1))
            { colour := shownColour (s.ppu.mask.getLsbD 0) (s.ppu.palette.read 0)
              emphasis := s.ppu.mask.extractLsb' 5 3 }
        else s.ppu.frame
      vblank := (s.ppu.vblank && !clear) || vblankStarts
      sprite0Hit := s.ppu.sprite0Hit && !clear
      spriteOverflow := s.ppu.spriteOverflow && !clear
      nmiOut := s.ppu.nmiOut || (vblankStarts && s.ppu.ctrl.getLsbD 7) } } := by
  intro clear vblankStarts
  have hrender (c : Bool) (x line : Nat) (p : Ppu) (hp : p.rendering = false) :
      applyWhen c (Ppu.renderPixel x line) p = { p with
        frame := if c = true then cellWrite Pixel.blank p.frame (256 * line + x)
            { colour := shownColour (p.mask.getLsbD 0) (p.palette.read 0), emphasis := p.mask.extractLsb' 5 3 }
          else p.frame } := by
    cases c
    · rfl
    · exact p.renderPixel_off x line hp
  rw [ppuDot_off s h, applyWhen_clearFlags, hrender, applyWhen_startVblank]
  case hp => exact h
  dsimp only
  rw [Ppu.advance_eq]
  simp only [decide_eq_true_eq]
  rfl

/-- Settles O42. -/
theorem renderingOffShowsTheBackdrop : Obligations.RenderingOffShowsTheBackdrop := by
  intro s hoff
  have ht := ppuDot_off_fields s hoff
  have hframe := congrArg (fun u : State => u.ppu.frame) ht
  dsimp only at ht hframe ⊢
  refine ⟨?_, fun hinvisible => hframe.trans (if_neg hinvisible), fun hvisible hmem => ?_⟩
  · rw [hframe]
    exact ht
  · obtain ⟨-, -, -, -, ⟨hwf, -⟩, -⟩ := hmem
    have hwritten (k : Nat) : cellRead Pixel.blank (ppuDot s).ppu.frame k =
        if k = 256 * s.ppu.scanline.toNat + (s.ppu.dot - 1) then
          { colour := shownColour (s.ppu.mask.getLsbD 0) (s.ppu.palette.read 0)
            emphasis := s.ppu.mask.extractLsb' 5 3 }
        else cellRead Pixel.blank s.ppu.frame k := by
      rw [hframe, if_pos hvisible]
      exact cellRead_cellWrite Pixel.blank s.ppu.frame 0 _ _ _ hwf
    rw [hwritten, if_pos rfl]
    exact ⟨shownColour_toNat _ _, emphasis_toNat _, fun k hk => (hwritten k).trans (if_neg hk)⟩

/-! ## The scroll registers, field by field (R542 to R545) -/

/-- The two nametable bits of a scroll register (R51). -/
def nametableBits (v : BitVec 15) : BitVec 2 := v.extractLsb' 10 2

/-- The four fields of a scroll register in numbers (R51). -/
theorem scrollFields_toNat (v : BitVec 15) :
    (coarseX v).toNat = v.toNat % 32 ∧ (coarseY v).toNat = v.toNat / 32 % 32 ∧
      (nametableBits v).toNat = v.toNat / 1024 % 4 ∧ (fineY v).toNat = v.toNat / 4096 := by
  have hv := v.isLt
  have hx : (coarseX v).toNat = v.toNat / 2 ^ 0 % 2 ^ 5 := toNat_extract v 0 5
  have hy : (coarseY v).toNat = v.toNat / 2 ^ 5 % 2 ^ 5 := toNat_extract v 5 5
  have hn : (nametableBits v).toNat = v.toNat / 2 ^ 10 % 2 ^ 2 := toNat_extract v 10 2
  have hf : (fineY v).toNat = v.toNat / 2 ^ 12 % 2 ^ 3 := toNat_extract v 12 3
  omega

/-- A field of which the mask keeps everything, and the other part has nothing. -/
theorem field_kept {v k u : BitVec 15} {n m : Nat} (hk : k.extractLsb' n m = BitVec.allOnes m)
    (hu : u.extractLsb' n m = 0#m) : ((v &&& k) ||| u).extractLsb' n m = v.extractLsb' n m := by
  rw [BitVec.extractLsb'_or, BitVec.extractLsb'_and, hk, hu, BitVec.and_allOnes, BitVec.or_zero]

/-- A field of which the mask keeps nothing. -/
theorem field_taken {v k u : BitVec 15} {n m : Nat} (hk : k.extractLsb' n m = 0#m) :
    ((v &&& k) ||| u).extractLsb' n m = u.extractLsb' n m := by
  rw [BitVec.extractLsb'_or, BitVec.extractLsb'_and, hk, BitVec.and_zero, BitVec.zero_or]

/-- A field of a masked register. -/
theorem field_masked {t k : BitVec 15} {n m : Nat} (hk : k.extractLsb' n m = BitVec.allOnes m) :
    (t &&& k).extractLsb' n m = t.extractLsb' n m := by
  rw [BitVec.extractLsb'_and, hk, BitVec.and_allOnes]

theorem field_cleared {t k : BitVec 15} {n m : Nat} (hk : k.extractLsb' n m = 0#m) :
    (t &&& k).extractLsb' n m = 0#m := by
  rw [BitVec.extractLsb'_and, hk, BitVec.and_zero]

theorem field_xor {v k : BitVec 15} {n m : Nat} {x : BitVec m} (hk : k.extractLsb' n m = x) :
    (v ^^^ k).extractLsb' n m = v.extractLsb' n m ^^^ x := by
  rw [BitVec.extractLsb'_xor, hk]

/-- The horizontal copy (R544). -/
theorem copyX_fields (v t : BitVec 15) :
    coarseX (copyX v t) = coarseX t ∧ coarseY (copyX v t) = coarseY v ∧ fineY (copyX v t) = fineY v ∧
      nametableBits (copyX v t) = (nametableBits v &&& 2) ||| (nametableBits t &&& 1) := by
  refine ⟨(field_taken rfl).trans (field_masked rfl), field_kept rfl (field_cleared rfl),
    field_kept rfl (field_cleared rfl), ?_⟩
  unfold nametableBits copyX
  rw [BitVec.extractLsb'_or, BitVec.extractLsb'_and, BitVec.extractLsb'_and]
  rfl

/-- The vertical copy (R545). -/
theorem copyY_fields (v t : BitVec 15) :
    coarseX (copyY v t) = coarseX v ∧ coarseY (copyY v t) = coarseY t ∧ fineY (copyY v t) = fineY t ∧
      nametableBits (copyY v t) = (nametableBits v &&& 1) ||| (nametableBits t &&& 2) := by
  refine ⟨field_kept rfl (field_cleared rfl), (field_taken rfl).trans (field_masked rfl),
    (field_taken rfl).trans (field_masked rfl), ?_⟩
  unfold nametableBits copyY
  rw [BitVec.extractLsb'_or, BitVec.extractLsb'_and, BitVec.extractLsb'_and]
  rfl

/-- A two-bit value of which one bit comes from each of two others. -/
theorem twoBits_merged : ∀ a b : BitVec 2,
    (((a &&& 2) ||| (b &&& 1)).getLsbD 0 = b.getLsbD 0 ∧ ((a &&& 2) ||| (b &&& 1)).getLsbD 1 = a.getLsbD 1) ∧
    (((a &&& 1) ||| (b &&& 2)).getLsbD 0 = a.getLsbD 0 ∧ ((a &&& 1) ||| (b &&& 2)).getLsbD 1 = b.getLsbD 1) := by
  decide

/-- The horizontal increment (R542). -/
theorem incX_fields (v : BitVec 15) :
    coarseX (incX v) = coarseX v + 1 ∧ coarseY (incX v) = coarseY v ∧ fineY (incX v) = fineY v ∧
      nametableBits (incX v) = if coarseX v = 31 then nametableBits v ^^^ 1 else nametableBits v := by
  unfold incX
  by_cases hwrap : coarseX v = 31
  · rw [if_pos hwrap, if_pos hwrap, hwrap]
    refine ⟨(field_xor rfl).trans (congrArg (· ^^^ 0#5) (field_cleared rfl)),
      (field_xor rfl).trans ((congrArg (· ^^^ 0#5) (field_masked rfl)).trans BitVec.xor_zero),
      (field_xor rfl).trans ((congrArg (· ^^^ 0#3) (field_masked rfl)).trans BitVec.xor_zero),
      (field_xor rfl).trans (congrArg (· ^^^ 1#2) (field_masked rfl))⟩
  · rw [if_neg hwrap, if_neg hwrap]
    obtain ⟨hx, hy, hn, hf⟩ := scrollFields_toNat v
    obtain ⟨hx', hy', hn', hf'⟩ := scrollFields_toNat (v + 1)
    have hlt : v.toNat % 32 ≠ 31 := fun h => hwrap (BitVec.eq_of_toNat_eq (hx.trans h))
    have hsum : (v + 1).toNat = v.toNat + 1 := by
      rw [BitVec.toNat_add, show (1 : BitVec 15).toNat = 1 from rfl]
      omega
    have hnext : (coarseX v + 1).toNat = ((coarseX v).toNat + 1) % 32 := BitVec.toNat_add _ _
    refine ⟨?_, ?_, ?_, ?_⟩ <;> apply BitVec.eq_of_toNat_eq <;> omega

/-- The vertical increment within a tile (R543). -/
theorem incY_fields_fine (v : BitVec 15) (h : (fineY v).toNat < 7) :
    coarseX (v + 0x1000#15) = coarseX v ∧ fineY (v + 0x1000#15) = fineY v + 1 ∧
      coarseY (v + 0x1000#15) = coarseY v ∧ nametableBits (v + 0x1000#15) = nametableBits v := by
  obtain ⟨hx, hy, hn, hf⟩ := scrollFields_toNat v
  obtain ⟨hx', hy', hn', hf'⟩ := scrollFields_toNat (v + 0x1000#15)
  have hsum : (v + 0x1000#15).toNat = v.toNat + 4096 := by
    rw [BitVec.toNat_add, show (0x1000#15).toNat = 4096 from rfl]
    omega
  have hnext : (fineY v + 1).toNat = ((fineY v).toNat + 1) % 8 := BitVec.toNat_add _ _
  refine ⟨?_, ?_, ?_, ?_⟩ <;> apply BitVec.eq_of_toNat_eq <;> omega

/-- A coarse Y in its place. -/
theorem coarseY_placed : ∀ y : BitVec 5, (y.setWidth 15 <<< 5).extractLsb' 0 5 = 0#5 ∧
    (y.setWidth 15 <<< 5).extractLsb' 5 5 = y ∧ (y.setWidth 15 <<< 5).extractLsb' 10 2 = 0#2 ∧
    (y.setWidth 15 <<< 5).extractLsb' 12 3 = 0#3 := by
  decide

/-- The next coarse Y, with the two wraps of R543. -/
theorem coarseY_next : ∀ y : BitVec 5, (if y = 29 ∨ y = 31 then 0 else y + 1) = if y = 29 then 0 else y + 1 := by
  decide

/-- The register with fine Y cleared and, from coarse Y 29, the vertical nametable bit switched. -/
def clearFineY (v : BitVec 15) : BitVec 15 :=
  if coarseY v = 29 then (v &&& ~~~0x7000#15) ^^^ 0x0800#15 else v &&& ~~~0x7000#15

theorem clearFineY_fields (v : BitVec 15) :
    coarseX (clearFineY v) = coarseX v ∧ fineY (clearFineY v) = 0 ∧
      nametableBits (clearFineY v) = if coarseY v = 29 then nametableBits v ^^^ 2 else nametableBits v := by
  unfold clearFineY
  split
  · exact ⟨(field_xor rfl).trans ((congrArg (· ^^^ 0#5) (field_masked rfl)).trans BitVec.xor_zero),
      (field_xor rfl).trans (congrArg (· ^^^ 0#3) (field_cleared rfl)),
      (field_xor rfl).trans (congrArg (· ^^^ 2#2) (field_masked rfl))⟩
  · exact ⟨field_masked rfl, field_cleared rfl, field_masked rfl⟩

/-- The vertical increment (R543). -/
theorem incY_fields (v : BitVec 15) :
    coarseX (incY v) = coarseX v ∧ fineY (incY v) = fineY v + 1 ∧
      coarseY (incY v) = (if fineY v = 7 then (if coarseY v = 29 then 0 else coarseY v + 1) else coarseY v) ∧
      nametableBits (incY v) = if fineY v = 7 ∧ coarseY v = 29 then nametableBits v ^^^ 2 else nametableBits v := by
  have hfine := (fineY v).isLt
  by_cases hlast : fineY v = 7
  · have hinc : incY v = (clearFineY v &&& ~~~0x03E0#15) |||
        ((if coarseY v = 29 then 0 else coarseY v + 1 : BitVec 5).setWidth 15 <<< 5) := by
      unfold incY
      rw [if_neg (by rw [hlast]; decide)]
      dsimp only
      rw [coarseY_next]
      rfl
    obtain ⟨hx, hf, hn⟩ := clearFineY_fields v
    obtain ⟨px, py, pn, pf⟩ := coarseY_placed (if coarseY v = 29 then 0 else coarseY v + 1)
    rw [hinc, if_pos hlast, hlast]
    refine ⟨(field_kept rfl px).trans hx, (field_kept rfl pf).trans hf, (field_taken rfl).trans py,
      (field_kept rfl pn).trans (hn.trans ?_)⟩
    exact if_congr (and_iff_right rfl).symm rfl rfl
  · have hlt : (fineY v).toNat < 7 := by
      have hne : (fineY v).toNat ≠ 7 := fun h => hlast (BitVec.eq_of_toNat_eq h)
      omega
    unfold incY
    rw [if_pos hlt, if_neg hlast, if_neg (fun h => hlast h.1)]
    exact incY_fields_fine v hlt

/-- Settles O44. -/
theorem scrollIncrementsAndCopies : Obligations.ScrollIncrementsAndCopies := by
  intro v t nt
  obtain ⟨hx, hy, hf, hn⟩ := copyX_fields v t
  obtain ⟨kx, ky, kf, kn⟩ := copyY_fields v t
  obtain ⟨⟨h0, h1⟩, k0, k1⟩ := twoBits_merged (nt v) (nt t)
  exact ⟨incX_fields v, incY_fields v, ⟨hx, hy, hf, (congrArg (·.getLsbD 0) hn).trans h0,
    (congrArg (·.getLsbD 1) hn).trans h1⟩, kx, ky, kf, (congrArg (·.getLsbD 0) kn).trans k0,
    (congrArg (·.getLsbD 1) kn).trans k1⟩

/-! ## Sprite evaluation (R550) -/

/-- Row `line` is one of the `h` rows of sprite `n`. -/
def Ppu.spriteHit (p : Ppu) (h : Nat) (line : Int) (n : Nat) : Bool :=
  decide (0 ≤ line - ((p.oam.read (4 * n)).toNat : Int) ∧ line - ((p.oam.read (4 * n)).toNat : Int) < (h : Int))

/-- The sprites of a list whose rows contain the line, in order. -/
def Ppu.spriteHits (p : Ppu) (h : Nat) (line : Int) (l : List Nat) : List Nat := l.filter (p.spriteHit h line)

/-- A sprite entered into the next free slot. -/
def Ppu.selectSprite (n : Nat) (p : Ppu) : Ppu :=
  { p.setSlotSprite p.sprCount (p.oamSprite n) with
    spr0InLine := p.spr0InLine || decide (n = 0), sprCount := p.sprCount + 1 }

theorem Ppu.scanSprites_cons (h : Nat) (line : Int) (n : Nat) (rest : List Nat) (p : Ppu) :
    Ppu.scanSprites h line (n :: rest) p =
      if p.spriteHit h line n = true then
        if p.sprCount < 8 then Ppu.scanSprites h line rest (p.selectSprite n) else { p with spriteOverflow := true }
      else Ppu.scanSprites h line rest p := by
  exact if_congr decide_eq_true_iff.symm rfl rfl

theorem Ppu.selectSprite_slot (n i : Nat) (p : Ppu) (hcount : p.sprCount < 8) :
    ((p.selectSprite n).slot i).sprite = if i = p.sprCount then p.oamSprite n else (p.slot i).sprite := by
  unfold Ppu.selectSprite Ppu.setSlotSprite Ppu.slot
  dsimp only
  rw [Vector.getElem?_setIfInBounds]
  split
  next heq =>
    subst heq
    simp [hcount]
  next hne => rw [if_neg (Ne.symm hne)]

/-- What a scan selects: the hits in order into the free slots, up to the eighth. -/
theorem Ppu.scanSprites_spec (h : Nat) (line : Int) (l : List Nat) (p : Ppu) (hcount : p.sprCount ≤ 8) :
    let q := Ppu.scanSprites h line l p
    let hits := p.spriteHits h line l
    q.sprCount = min 8 (p.sprCount + hits.length) ∧
    q.spriteOverflow = (p.spriteOverflow || decide (8 < p.sprCount + hits.length)) ∧
    (0 ∉ l → q.spr0InLine = p.spr0InLine) ∧
    (∀ i < p.sprCount, (q.slot i).sprite = (p.slot i).sprite) ∧
    (∀ i n : Nat, p.sprCount + i < 8 → hits[i]? = some n → (q.slot (p.sprCount + i)).sprite = p.oamSprite n) ∧
    q = { p with
      sprCount := q.sprCount, spriteOverflow := q.spriteOverflow, spr0InLine := q.spr0InLine, slots := q.slots } := by
  induction l generalizing p with
  | nil =>
    refine ⟨?_, ?_, fun _ => rfl, fun _ _ => rfl, fun i n _ hn => ?_, rfl⟩
    · exact (Nat.min_eq_right hcount).symm
    · have hno : ¬ 8 < p.sprCount + (p.spriteHits h line []).length := Nat.not_lt.mpr hcount
      rw [decide_eq_false hno, Bool.or_false]
      rfl
    · exact absurd hn (by simp [Ppu.spriteHits])
  | cons n rest ih =>
    dsimp only
    rw [Ppu.scanSprites_cons]
    by_cases hhit : p.spriteHit h line n = true
    · have hhits : p.spriteHits h line (n :: rest) = n :: p.spriteHits h line rest := List.filter_cons_of_pos hhit
      rw [if_pos hhit, hhits, List.length_cons]
      by_cases hfree : p.sprCount < 8
      · rw [if_pos hfree]
        obtain ⟨hc, hover, hzero, hbefore, hafter, hsame⟩ := ih (p.selectSprite n) hfree
        have hslot := fun i => p.selectSprite_slot n i hfree
        generalize Ppu.scanSprites h line rest (p.selectSprite n) = q at *
        refine ⟨?_, ?_, fun h0 => ?_, fun i hi => ?_, fun i m hi hm => ?_, ?_⟩
        · rw [hc, Nat.add_comm (p.spriteHits h line rest).length, ← Nat.add_assoc]
          rfl
        · rw [hover, Nat.add_comm (p.spriteHits h line rest).length, ← Nat.add_assoc]
          rfl
        · have hn : n ≠ 0 := fun h => h0 (h ▸ List.mem_cons_self)
          rw [hzero fun hmem => h0 (List.mem_cons_of_mem n hmem)]
          show (p.spr0InLine || decide (n = 0)) = p.spr0InLine
          rw [decide_eq_false hn, Bool.or_false]
        · rw [hbefore i (Nat.lt_succ_of_lt hi), hslot, if_neg (Nat.ne_of_lt hi)]
        · cases i with
          | zero =>
            obtain rfl := Option.some.inj hm
            rw [Nat.add_zero, hbefore _ (Nat.lt_succ_self _), hslot, if_pos rfl]
          | succ i =>
            have hnext := hafter i m (by show p.sprCount + 1 + i < 8; omega) hm
            rw [← Nat.add_assoc, Nat.add_right_comm]
            exact hnext
        · exact hsame
      · have hfull : p.sprCount = 8 := by omega
        rw [if_neg hfree]
        refine ⟨?_, ?_, fun _ => rfl, fun _ _ => rfl, fun i _ hi => absurd hi (by omega), rfl⟩
        · show p.sprCount = _
          omega
        · rw [decide_eq_true (by omega : 8 < p.sprCount + ((p.spriteHits h line rest).length + 1)), Bool.or_true]
    · have hhits : p.spriteHits h line (n :: rest) = p.spriteHits h line rest := List.filter_cons_of_neg hhit
      rw [if_neg hhit, hhits]
      obtain ⟨hc, hover, hzero, hbefore, hafter, hsame⟩ := ih p hcount
      exact ⟨hc, hover, fun h0 => hzero (fun hmem => h0 (List.mem_cons_of_mem _ hmem)), hbefore, hafter, hsame⟩

/-- Sprite 0 stands first in OAM, so the scan sees it with every slot free. -/
theorem Ppu.scanSprites_zero (h : Nat) (line : Int) (l : List Nat) (h0 : 0 ∉ l) (p : Ppu) (hcount : p.sprCount = 0) :
    (Ppu.scanSprites h line (0 :: l) p).spr0InLine = (p.spr0InLine || p.spriteHit h line 0) := by
  rw [Ppu.scanSprites_cons]
  obtain hhit | hmiss := Bool.eq_false_or_eq_true (p.spriteHit h line 0)
  · rw [if_pos hhit, if_pos (by omega), hhit]
    have hselected : (p.selectSprite 0).sprCount = 1 := congrArg (· + 1) hcount
    obtain ⟨-, -, hzero, -⟩ := Ppu.scanSprites_spec h line l (p.selectSprite 0) (by omega)
    exact hzero h0
  · rw [if_neg (by rw [hmiss]; decide), hmiss, Bool.or_false]
    obtain ⟨-, -, hzero, -⟩ := Ppu.scanSprites_spec h line l p (by omega)
    exact hzero h0

/-- Settles O45: one specification of the scan, and sprite 0 by the scan's first step. -/
theorem spriteEvaluationSelectsTheFirstEight : Obligations.SpriteEvaluationSelectsTheFirstEight := by
  intro line p h hits q
  have hheight : (p.spriteHeight : Int) = h := by
    unfold Ppu.spriteHeight
    split <;> simp_all [h]
  have hhits : hits = p.clearSprites.spriteHits p.spriteHeight line (List.range 64) := by
    unfold Ppu.spriteHits Ppu.spriteHit
    rw [hheight]
    rfl
  have hq : q = Ppu.scanSprites p.spriteHeight line (List.range 64) p.clearSprites := rfl
  have hspec := Ppu.scanSprites_spec p.spriteHeight line (List.range 64) p.clearSprites (Nat.zero_le 8)
  have hzero := Ppu.scanSprites_zero p.spriteHeight line (List.range' 1 63) (by decide) p.clearSprites rfl
  rw [show 0 :: List.range' 1 63 = List.range 64 by decide] at hzero
  dsimp only at hspec
  rw [← hq, ← hhits] at hspec
  rw [← hq] at hzero
  have hmem : p.clearSprites.spriteHit p.spriteHeight line 0 = decide (0 ∈ hits) := by
    rw [hhits, Ppu.spriteHits]
    simp
  clear_value q hits
  obtain ⟨hcount, hover, -, -, hslots, hsame⟩ := hspec
  have hstart : p.clearSprites.sprCount = 0 := rfl
  rw [hstart, Nat.zero_add] at hcount hover
  refine ⟨hcount, hover, hzero.trans (hmem ▸ rfl), fun i n hi hn => ?_, hsame⟩
  have hslot := hslots i n (by omega) hn
  rwa [hstart, Nat.zero_add] at hslot

end Sys2Proof.Machine
end

section
/-! PROOF. One pixel: the sprite layer as the first opaque slot, the background layer in numbers, their composition and
the palette entry (62_ppu.md R560 to R564). -/

namespace Sys2Proof.Machine

/-! ## The two layers in numbers (R560, R561) -/

/-- A 2-bit value in numbers. -/
def twoBitsNat (hi lo : Bool) : Nat := 2 * hi.toNat + lo.toNat

theorem twoBits_toNat (hi lo : Bool) : (twoBits hi lo).toNat = twoBitsNat hi lo := by
  cases hi <;> cases lo <;> rfl

theorem twoBits_eq_ofNat (hi lo : Bool) : twoBits hi lo = BitVec.ofNat 2 (twoBitsNat hi lo) := by
  cases hi <;> cases lo <;> rfl

theorem twoBitsNat_lt (hi lo : Bool) : twoBitsNat hi lo < 4 := by
  cases hi <;> cases lo <;> decide

/-- What slot `i` shows at x (R561). -/
def Ppu.dotOf (x : Nat) (p : Ppu) (i : Nat) : Nat :=
  let slot := p.slot i
  let left := slot.sprite.x.toNat
  if left ≤ x ∧ x < left + 8 then twoBitsNat (slot.hi.getLsbD (left + 7 - x)) (slot.lo.getLsbD (left + 7 - x)) else 0

/-- The sprite layer where slot `i` is the first opaque one. -/
def Ppu.slotDot (x : Nat) (p : Ppu) (i : Nat) : SpriteDot :=
  { pixel := BitVec.ofNat 2 (p.dotOf x i)
    palette := 4 + ((p.slot i).sprite.attr.extractLsb' 0 2).setWidth 3
    behind := (p.slot i).sprite.attr.getLsbD 5
    isZero := decide (i = 0) && p.spr0InLine }

/-- The first opaque slot at x, where PPUMASK shows sprites. -/
def Ppu.firstOpaque (x : Nat) (p : Ppu) : Option Nat :=
  if p.mask.getLsbD 4 && (p.mask.getLsbD 2 || decide (8 ≤ x)) then
    (List.range p.sprCount).find? fun i => decide (p.dotOf x i ≠ 0)
  else none

theorem Ppu.dotOf_lt (x : Nat) (p : Ppu) (i : Nat) : p.dotOf x i < 4 := by
  unfold Ppu.dotOf
  dsimp only
  split
  · exact twoBitsNat_lt _ _
  · decide

/-- One slot of the scan. -/
theorem Ppu.scanSlots_cons (x : Nat) (p : Ppu) (i : Nat) (rest : List Nat) :
    Ppu.scanSlots x p (i :: rest) = if p.dotOf x i ≠ 0 then p.slotDot x i else Ppu.scanSlots x p rest := by
  have hlt := p.dotOf_lt x i
  have hdot : p.dotOf x i = if (p.slot i).sprite.x.toNat ≤ x ∧ x ≤ (p.slot i).sprite.x.toNat + 7 then
      twoBitsNat ((p.slot i).hi.getLsbD (7 - (x - (p.slot i).sprite.x.toNat)))
        ((p.slot i).lo.getLsbD (7 - (x - (p.slot i).sprite.x.toNat))) else 0 := by
    unfold Ppu.dotOf
    dsimp only
    by_cases hin : (p.slot i).sprite.x.toNat ≤ x ∧ x ≤ (p.slot i).sprite.x.toNat + 7
    · rw [if_pos (by omega), if_pos hin,
        show (p.slot i).sprite.x.toNat + 7 - x = 7 - (x - (p.slot i).sprite.x.toNat) by omega]
    · rw [if_neg (by omega), if_neg hin]
  rw [Ppu.scanSlots]
  dsimp only
  by_cases hin : (p.slot i).sprite.x.toNat ≤ x ∧ x ≤ (p.slot i).sprite.x.toNat + 7
  · rw [if_pos hin] at hdot ⊢
    rw [twoBits_eq_ofNat, ← hdot]
    by_cases hzero : p.dotOf x i = 0
    · rw [if_neg (not_not.mpr hzero), hzero]
      exact if_pos rfl
    · have hne : BitVec.ofNat 2 (p.dotOf x i) ≠ 0 := fun h => hzero (by
        have hnat := congrArg BitVec.toNat h
        rw [BitVec.toNat_ofNat, Nat.mod_eq_of_lt hlt] at hnat
        exact hnat)
      rw [if_neg hne, if_pos hzero]
      rfl
  · rw [if_neg hin] at hdot ⊢
    rw [if_neg (not_not.mpr hdot)]

/-- The scan finds the first opaque slot. -/
theorem Ppu.scanSlots_eq (x : Nat) (p : Ppu) (l : List Nat) :
    Ppu.scanSlots x p l = ((l.find? fun i => decide (p.dotOf x i ≠ 0)).map (p.slotDot x)).getD SpriteDot.clear := by
  induction l with
  | nil => rfl
  | cons i rest ih =>
    rw [Ppu.scanSlots_cons, List.find?_cons]
    by_cases h : p.dotOf x i ≠ 0
    · rw [if_pos h, decide_eq_true h]
      rfl
    · rw [if_neg h, decide_eq_false h, ih]

theorem Ppu.spriteDot_eq (x : Nat) (p : Ppu) :
    p.spriteDot x = ((p.firstOpaque x).map (p.slotDot x)).getD SpriteDot.clear := by
  unfold Ppu.spriteDot Ppu.firstOpaque
  split
  · exact p.scanSlots_eq x _
  · rfl

theorem Ppu.firstOpaque_dot {x : Nat} {p : Ppu} {i : Nat} (h : p.firstOpaque x = some i) : p.dotOf x i ≠ 0 := by
  unfold Ppu.firstOpaque at h
  split at h
  · exact of_decide_eq_true (p := p.dotOf x i ≠ 0) (List.find?_some h :)
  · exact absurd h (by simp)

/-- The background at x in numbers. -/
def Ppu.bgNat (x : Nat) (p : Ppu) : Nat :=
  if p.bgShown x then twoBitsNat (p.shPatHi.getLsbD (15 - p.x.toNat)) (p.shPatLo.getLsbD (15 - p.x.toNat)) else 0

theorem Ppu.bgPixel_toNat (x : Nat) (p : Ppu) : (p.bgPixel x).toNat = p.bgNat x := by
  unfold Ppu.bgPixel Ppu.bgNat
  dsimp only
  split
  · exact twoBits_toNat _ _
  · rfl

theorem Ppu.bgPalette_toNat (x : Nat) (p : Ppu) (h : p.bgNat x ≠ 0) :
    (p.bgPalette x).toNat = twoBitsNat (p.shAtHi.getLsbD (15 - p.x.toNat)) (p.shAtLo.getLsbD (15 - p.x.toNat)) := by
  have hshown : p.bgShown x = true := by
    by_contra hhidden
    exact h (if_neg hhidden)
  unfold Ppu.bgPalette
  dsimp only
  rw [if_pos hshown]
  exact twoBits_toNat _ _

/-! ## The composed pixel (R562 to R564) -/

/-- The palette index of a composed pixel: no mirror is met, since an entry 0 comes from the backdrop alone. -/
theorem palIndex_composed : ∀ (px : BitVec 2) (pal : BitVec 3), px ≠ 0 ∨ pal = 0 →
    palIndex (0x3F00#16 + 4 * pal.setWidth 16 + px.setWidth 16) = 4 * pal.toNat + px.toNat := by
  decide

theorem Ppu.colourOf_eq (p : Ppu) (px : BitVec 2) (pal : BitVec 3) (h : px ≠ 0 ∨ pal = 0) :
    p.colourOf (px, pal) = shownColour (p.mask.getLsbD 0) (p.palette.read (4 * pal.toNat + px.toNat)) := by
  unfold Ppu.colourOf Ppu.paletteAt
  dsimp only
  rw [palIndex_composed px pal h]
  rfl

/-- The palette entry of a pixel (R562). -/
def Ppu.pixelEntry (x : Nat) (p : Ppu) : Nat :=
  let bgEntry := 4 * twoBitsNat (p.shAtHi.getLsbD (15 - p.x.toNat)) (p.shAtLo.getLsbD (15 - p.x.toNat)) + p.bgNat x
  match p.firstOpaque x with
  | none => if p.bgNat x = 0 then 0 else bgEntry
  | some i =>
    let attr := (p.slot i).sprite.attr
    if p.bgNat x ≠ 0 ∧ attr.getLsbD 5 = true then bgEntry else 16 + 4 * (attr.toNat % 4) + p.dotOf x i

/-- The sprite palette of a slot. -/
theorem slotPalette_toNat (attr : Byte) :
    (4 + (attr.extractLsb' 0 2).setWidth 3 : BitVec 3).toNat = 4 + attr.toNat % 4 := by
  have hall : ∀ c : BitVec 2, (4 + c.setWidth 3 : BitVec 3).toNat = 4 + c.toNat := by decide
  rw [hall, toNat_extract, Nat.pow_zero, Nat.div_one]
  rfl

theorem Ppu.bgPixel_eq_zero_iff (x : Nat) (p : Ppu) : p.bgPixel x = 0 ↔ p.bgNat x = 0 := by
  rw [← p.bgPixel_toNat]
  exact ⟨fun h => congrArg BitVec.toNat h, fun h => BitVec.eq_of_toNat_eq h⟩

/-- The background as the composed pixel. -/
theorem Ppu.colourOf_background (x : Nat) (p : Ppu) (h : p.bgNat x ≠ 0) :
    p.colourOf (p.bgPixel x, (p.bgPalette x).setWidth 3) = shownColour (p.mask.getLsbD 0) (p.palette.read
      (4 * twoBitsNat (p.shAtHi.getLsbD (15 - p.x.toNat)) (p.shAtLo.getLsbD (15 - p.x.toNat)) + p.bgNat x)) := by
  rw [p.colourOf_eq _ _ (.inl ((p.bgPixel_eq_zero_iff x).not.mpr h)), BitVec.toNat_setWidth_of_le (by decide),
    p.bgPalette_toNat x h, p.bgPixel_toNat]

/-- The sprite layer of a slot in numbers. -/
theorem Ppu.slotDot_pixel (x : Nat) (p : Ppu) (i : Nat) (h : p.dotOf x i ≠ 0) :
    (p.slotDot x i).pixel ≠ 0 ∧ (p.slotDot x i).pixel.toNat = p.dotOf x i := by
  have hnat : (p.slotDot x i).pixel.toNat = p.dotOf x i := Nat.mod_eq_of_lt (p.dotOf_lt x i)
  exact ⟨fun hzero => h (hnat.symm.trans (congrArg BitVec.toNat hzero)), hnat⟩

theorem Ppu.colourOf_sprite (x : Nat) (p : Ppu) (i : Nat) (h : p.dotOf x i ≠ 0) :
    p.colourOf ((p.slotDot x i).pixel, (p.slotDot x i).palette) = shownColour (p.mask.getLsbD 0) (p.palette.read
      (16 + 4 * ((p.slot i).sprite.attr.toNat % 4) + p.dotOf x i)) := by
  obtain ⟨hne, hnat⟩ := p.slotDot_pixel x i h
  have hpalette : (p.slotDot x i).palette.toNat = 4 + (p.slot i).sprite.attr.toNat % 4 := slotPalette_toNat _
  rw [p.colourOf_eq _ _ (.inl hne), hnat, hpalette, Nat.mul_add]

/-- The two layers compose to the entry of R562. -/
theorem Ppu.colourOf_composePixel (x : Nat) (p : Ppu) :
    p.colourOf (composePixel (p.bgPixel x) (p.bgPalette x) (p.spriteDot x)) =
      shownColour (p.mask.getLsbD 0) (p.palette.read (p.pixelEntry x)) := by
  have hbg := p.bgPixel_eq_zero_iff x
  rw [p.spriteDot_eq]
  unfold Ppu.pixelEntry composePixel
  dsimp only
  cases hfirst : p.firstOpaque x with
  | none =>
    dsimp only [Option.map_none, Option.getD_none]
    have hclear : SpriteDot.clear.pixel = 0 := rfl
    by_cases hzero : p.bgNat x = 0
    · rw [if_pos ⟨hbg.mpr hzero, hclear⟩, if_pos hzero]
      exact p.colourOf_eq 0 0 (.inr rfl)
    · rw [if_neg (fun h => hzero (hbg.mp h.1)), if_neg (hbg.not.mpr hzero), if_pos hclear, if_neg hzero]
      exact p.colourOf_background x hzero
  | some i =>
    dsimp only [Option.map_some, Option.getD_some]
    have hdot := Ppu.firstOpaque_dot hfirst
    have hpixel := (p.slotDot_pixel x i hdot).1
    have hbehind : (p.slotDot x i).behind = (p.slot i).sprite.attr.getLsbD 5 := rfl
    rw [if_neg (fun h => hpixel h.2)]
    by_cases hzero : p.bgNat x = 0
    · rw [if_pos (hbg.mpr hzero), if_neg (fun h => h.1 hzero)]
      exact p.colourOf_sprite x i hdot
    · rw [if_neg (hbg.not.mpr hzero), if_neg hpixel]
      by_cases hattr : (p.slot i).sprite.attr.getLsbD 5 = true
      · rw [if_pos (hbehind.trans hattr), if_pos ⟨hzero, hattr⟩]
        exact p.colourOf_background x hzero
      · rw [if_neg (fun h => hattr (hbehind.symm.trans h)), if_neg (fun h => hattr h.2)]
        exact p.colourOf_sprite x i hdot

/-- Sprite-zero hit: both layers opaque, slot 0 first with sprite 0, and x not 255 (R563). -/
theorem Ppu.zeroHit_iff (x : Nat) (p : Ppu) :
    zeroHit x (p.bgPixel x) (p.spriteDot x) = true ↔
      p.bgNat x ≠ 0 ∧ p.firstOpaque x = some 0 ∧ p.spr0InLine = true ∧ x ≠ 255 := by
  have hbg : p.bgPixel x ≠ 0 ↔ p.bgNat x ≠ 0 := (p.bgPixel_eq_zero_iff x).not
  rw [p.spriteDot_eq]
  unfold zeroHit
  simp only [Bool.and_eq_true, decide_eq_true_eq]
  rw [hbg]
  cases hfirst : p.firstOpaque x with
  | none => simp [SpriteDot.clear]
  | some i =>
    have hpixel := (p.slotDot_pixel x i (Ppu.firstOpaque_dot hfirst)).1
    simp [Ppu.slotDot] at hpixel ⊢
    tauto

/-- Settles O43. -/
theorem pixelsComposeTheLayers : Obligations.PixelsComposeTheLayers := by
  intro x line p _ hwf q bgOn spOn two b bg bgEntry dotOf first entry colour pixel
  have hwritten (k : Nat) : cellRead Pixel.blank q.frame k = if k = 256 * line + x then
      { colour := shownColour (p.mask.getLsbD 0) (p.palette.read (p.pixelEntry x))
        emphasis := p.mask.extractLsb' 5 3 } else cellRead Pixel.blank p.frame k := by
    rw [← p.colourOf_composePixel]
    exact cellRead_cellWrite Pixel.blank p.frame 0 _ _ _ hwf
  have hpixel : pixel = _ := (hwritten (256 * line + x)).trans (if_pos rfl)
  refine ⟨rfl, ?_, ?_, ?_, fun k hk => (hwritten k).trans (if_neg hk)⟩
  · exact Bool.or_eq_true_iff.trans (or_congr_right (p.zeroHit_iff x))
  · rw [hpixel]
    exact shownColour_toNat _ _
  · rw [hpixel]
    exact emphasis_toNat _

end Sys2Proof.Machine
end

section
/-! PROOF. MMC1's serial port, the reset and power-on values, the load of a cartridge, and what a tick is
(64_cartridge_mappers.md R720, R755, 70_reset_and_hazards.md R800 to R805, 61_bus_clocking.md R451). -/

namespace Sys2Proof.Machine

/-! ## MMC1's serial port (R720) -/

/-- The shift register after one more bit. -/
def shiftedIn (shift : BitVec 5) (v : Byte) : BitVec 5 := (shift >>> 1) ||| (boolBit 5 (v.getLsbD 0) <<< 4)

/-- The first four writes fill the shift register. -/
theorem Mmc1.write_bit (m : Mmc1) (a : Word) (v : Byte) (h : v.getLsbD 7 = false) (hcount : m.shiftCount < 4) :
    m.write a v = { m with shift := shiftedIn m.shift v, shiftCount := m.shiftCount + 1 } := by
  unfold Mmc1.write
  rw [if_neg (by rw [h]; decide)]
  dsimp only
  rw [if_neg (by omega)]
  rfl

/-- The fifth write fills the register that its address selects. -/
theorem Mmc1.write_fifth (m : Mmc1) (a : Word) (v : Byte) (h : v.getLsbD 7 = false) (hcount : m.shiftCount = 4) :
    m.write a v = { m.setRegister a (shiftedIn m.shift v) with shift := 0, shiftCount := 0 } := by
  unfold Mmc1.write
  rw [if_neg (by rw [h]; decide)]
  dsimp only
  rw [if_pos hcount]
  rfl

theorem Mmc1.setRegister_eq (m : Mmc1) (a : Word) (value : BitVec 5) :
    m.setRegister a value =
      if a.toNat / 0x2000 % 4 = 0 then { m with control := value }
      else if a.toNat / 0x2000 % 4 = 1 then { m with chr0 := value }
      else if a.toNat / 0x2000 % 4 = 2 then { m with chr1 := value } else { m with prg := value } := by
  have hselect : (a.extractLsb' 13 2).toNat = a.toNat / 0x2000 % 4 := toNat_extract a 13 2
  unfold Mmc1.setRegister
  rw [hselect]
  split
  next h => rw [if_pos h]
  next h => rw [if_neg (by omega), if_pos h]
  next h => rw [if_neg (by omega), if_neg (by omega), if_pos h]
  next h0 h1 h2 => rw [if_neg h0, if_neg h1, if_neg h2]

/-- Five bits, the first the least significant. -/
theorem shiftedIn_five (v1 v2 v3 v4 v5 : Byte) :
    shiftedIn (shiftedIn (shiftedIn (shiftedIn (shiftedIn 0 v1) v2) v3) v4) v5 =
      BitVec.ofNat 5 ((v1.getLsbD 0).toNat + 2 * (v2.getLsbD 0).toNat + 4 * (v3.getLsbD 0).toNat +
        8 * (v4.getLsbD 0).toNat + 16 * (v5.getLsbD 0).toNat) := by
  unfold shiftedIn
  generalize v1.getLsbD 0 = b1, v2.getLsbD 0 = b2, v3.getLsbD 0 = b3, v4.getLsbD 0 = b4, v5.getLsbD 0 = b5
  revert b1 b2 b3 b4 b5
  decide

/-- Settles O50. -/
theorem mmc1SerialPort : Obligations.Mmc1SerialPort := by
  refine ⟨fun m a1 a2 a3 a4 a5 v1 v2 v3 v4 v5 hshift hcount h1 h2 h3 h4 h5 => ?_, fun m a v h => if_pos h⟩
  have hfour : (((m.write a1 v1).write a2 v2).write a3 v3).write a4 v4 =
      { m with shift := shiftedIn (shiftedIn (shiftedIn (shiftedIn 0 v1) v2) v3) v4, shiftCount := 4 } := by
    rw [m.write_bit a1 v1 h1 (by omega), Mmc1.write_bit _ a2 v2 h2 (by dsimp only; omega),
      Mmc1.write_bit _ a3 v3 h3 (by dsimp only; omega), Mmc1.write_bit _ a4 v4 h4 (by dsimp only; omega),
      hshift, hcount]
  dsimp only
  rw [hfour]
  refine ⟨rfl, ?_⟩
  rw [Mmc1.write_fifth _ a5 v5 h5 rfl, shiftedIn_five, Mmc1.setRegister_eq]
  split_ifs <;> rw [← hshift, ← hcount]

/-! ## Reset, power-on and load (R755, R800, R801) -/

theorem memRead16_resetVector (s : State) :
    memRead16 resetVector s =
      (s, BitVec.ofNat 16 (256 * (memRead 0xFFFD s).2.toNat + (memRead 0xFFFC s).2.toNat)) := by
  rw [memRead16_cartridge resetVector s (by decide) (by decide), mkWord_eq,
    memRead_cartridge 0xFFFD s (by decide), memRead_cartridge 0xFFFC s (by decide)]
  rfl

/-- A state with every register at its reset value, the vector not yet read (R800). -/
def State.clearedByReset (s : State) : State :=
  { s with
    cpu := Cpu.reset 0
    ppu := Ppu.reset s.ppu.oam s.ppu.vram s.ppu.palette s.ppu.frame
    apu := Apu.reset
    ctrl := { port0 := s.ctrl.port0.hostReset, port1 := s.ctrl.port1.hostReset, strobe := false }
    dotCount := 0 }

/-- A vector read depends on the cartridge only. -/
theorem memRead_vector_byte (a : Word) (s t : State) (h : 0x4020 ≤ a.toNat) (hcart : t.cart = s.cart) :
    (memRead a t).2 = (memRead a s).2 := by
  rw [memRead_cartridge a t h, memRead_cartridge a s h]
  unfold State.cartRead
  rw [hcart]

theorem hostReset_eq (s : State) :
    s.hostReset = s.clearedByReset.setPc
      (BitVec.ofNat 16 (256 * (memRead 0xFFFD s).2.toNat + (memRead 0xFFFC s).2.toNat)) := by
  change (match memRead16 resetVector s.clearedByReset with | (s2, vector) => s2.setPc vector) = _
  rw [memRead16_resetVector, memRead_vector_byte 0xFFFD s s.clearedByReset (by decide) rfl,
    memRead_vector_byte 0xFFFC s s.clearedByReset (by decide) rfl]

/-- The vector may be read after the reset as well: no mapping changes. -/
theorem hostReset_eq_own (s : State) :
    s.hostReset = s.clearedByReset.setPc
      (BitVec.ofNat 16 (256 * (memRead 0xFFFD s.hostReset).2.toNat + (memRead 0xFFFC s.hostReset).2.toNat)) := by
  have hcart : s.hostReset.cart = s.cart := by rw [hostReset_eq s]; rfl
  rw [memRead_vector_byte 0xFFFD s s.hostReset (by decide) hcart,
    memRead_vector_byte 0xFFFC s s.hostReset (by decide) hcart]
  exact hostReset_eq s

/-- Settles O54: all fields but PC are constants or kept, and the vector is read from the cartridge. -/
theorem resetLeavesTheStatedValues : Obligations.ResetLeavesTheStatedValues := by
  refine ⟨hostReset_eq, fun m s => ⟨?_, fun h => ?_, fun c h => ?_⟩, ?_⟩
  · exact hostReset_eq_own _
  · dsimp only [State.powerOn]
    rw [hostReset_eq, h]
    rfl
  · dsimp only [State.powerOn]
    rw [hostReset_eq, h]
    cases hm : c.mapper <;> simp only [Option.map_some, Cart.powerOn, hm] <;> rfl
  · rw [hostReset_eq]
    rfl

/-! ## Loading a cartridge (R482, R755) -/

theorem Memory.ofBytesFrom_read (l : List Byte) (a k : Nat) :
    (Memory.ofBytesFrom a l).read (a + k) = l.getD k 0 := by
  induction l generalizing a k with
  | nil => rfl
  | cons b rest ih =>
    have hbelow : cellRead unlistedByte (Memory.ofBytesFrom (a + 1) rest) a = 0 :=
      cellRead_below unlistedByte _ (a + 1) a (Memory.ofBytesFrom_wf rest (a + 1) (a + 1) (Nat.le_refl _))
        (Nat.lt_succ_self a)
    unfold Memory.ofBytesFrom
    cases k with
    | zero =>
      by_cases hb : b = unlistedByte
      · rw [if_pos hb, hb]
        exact hbelow
      · rw [if_neg hb]
        simp [Memory.read, cellRead]
    | succ k =>
      have hrest := ih (a + 1) k
      rw [show a + 1 + k = a + (k + 1) by omega] at hrest
      by_cases hb : b = unlistedByte
      · rw [if_pos hb]
        exact hrest
      · rw [if_neg hb]
        simpa [Memory.read, cellRead] using hrest

theorem Memory.ofBytes_read (l : List Byte) (k : Nat) : (Memory.ofBytes l).read k = l.getD k 0 := by
  simpa [Memory.ofBytes] using Memory.ofBytesFrom_read l 0 k

theorem Mapper.ofId_eq_some {n : Nat} {m : Mapper} (h : Mapper.ofId n = some m) :
    n ≤ 4 ∧ m.id = n ∧ m.powerOn = m := by
  unfold Mapper.ofId at h
  split at h <;> cases h <;> decide

theorem Mapper.ofId_isSome {n : Nat} (h : n ≤ 4) : ∃ m, Mapper.ofId n = some m := by
  interval_cases n <;> exact ⟨_, rfl⟩

theorem cartImage_wf_iff (i : CartImage) :
    i.wf = true ↔ i.mapperId ≤ 4 ∧ i.prgRom.length % 16384 = 0 ∧ i.prgRom.length ≠ 0 ∧ i.chrRom.length % 8192 = 0 := by
  simp only [CartImage.wf, CartImage.mapperSupported, CartImage.prgSizeOk, CartImage.chrSizeOk, Bool.and_eq_true,
    decide_eq_true_eq, and_assoc]

theorem cart_memoriesOk (m : PowerOnMem) (i : CartImage) (mapper : Mapper) (hwf : i.wf = true)
    (hprgRam : m.prgRam.wf = true ∧ m.prgRam.below 8192 = true)
    (hchrRam : m.chrRam.wf = true ∧ m.chrRam.below 8192 = true) : (CartImage.cart m i mapper).MemoriesOk := by
  obtain ⟨-, hprg, hprg0, hchr⟩ := (cartImage_wf_iff i).mp hwf
  have hprgSize : 16384 * (i.prgRom.length / 16384) = i.prgRom.length := by omega
  have hchrSize : 8192 * (i.chrRom.length / 8192) = i.chrRom.length := by omega
  refine ⟨by dsimp only [CartImage.cart]; omega, ?_, ?_, hprgRam, ?_⟩ <;> dsimp only [CartImage.cart]
  · cases hrom : i.chrRom with
    | nil => exact Nat.le_refl 1
    | cons b rest =>
      rw [hrom] at hchr
      simp only [List.length_cons, List.isEmpty_cons, Bool.false_eq_true, if_false] at hchr ⊢
      omega
  · rw [hprgSize]
    exact Memory.ofBytes_ok i.prgRom
  · by_cases hrom : i.chrRom.isEmpty = true
    · simpa only [if_pos hrom] using hchrRam
    · simpa only [if_neg hrom, hchrSize] using Memory.ofBytes_ok i.chrRom

/-- What loading does: it installs the cartridge of a supported image. -/
theorem loadCartridge_next_iff (m : PowerOnMem) (i : CartImage) (s t : State) :
    s.loadCartridge m i = .next t ↔
      i.wf = true ∧ ∃ mapper, Mapper.ofId i.mapperId = some mapper ∧
        t = { s with cart := some (CartImage.cart m i mapper) } := by
  unfold State.loadCartridge
  cases hm : Mapper.ofId i.mapperId with
  | none => simp
  | some mapper =>
    by_cases hwf : i.wf = true
    · simp [hwf, eq_comm]
    · simp [hwf]

/-- Settles O55. -/
theorem loadAcceptsExactlyTheSupportedImages : Obligations.LoadAcceptsExactlyTheSupportedImages := by
  intro m i s
  constructor
  · rw [← (cartImage_wf_iff i)]
    constructor
    · rintro ⟨t, ht⟩
      exact ((loadCartridge_next_iff m i s t).mp ht).1
    · intro hwf
      obtain ⟨mapper, hmapper⟩ := Mapper.ofId_isSome ((cartImage_wf_iff i).mp hwf).1
      exact ⟨_, (loadCartridge_next_iff m i s _).mpr ⟨hwf, mapper, hmapper, rfl⟩⟩
  · intro t ht
    obtain ⟨hwf, mapper, hmapper, rfl⟩ := (loadCartridge_next_iff m i s t).mp ht
    obtain ⟨-, hid, hpowerOn⟩ := Mapper.ofId_eq_some hmapper
    refine ⟨CartImage.cart m i mapper, rfl, hid, hpowerOn, rfl, rfl, rfl, Memory.ofBytes_read i.prgRom, fun h => ?_,
      fun h => ?_, fun hram hramSize hchrRam hchrRamSize => ?_⟩
    · simp [CartImage.cart, h]
    · simp [CartImage.cart, h, Memory.ofBytes_read]
    · exact cart_memoriesOk m i mapper hwf ⟨hram, hramSize⟩ ⟨hchrRam, hchrRamSize⟩
/-! ## Ticks (R180, R451) -/

/-- Settles O6: the dot leaves the CPU alone and the devices' clocks change only its interrupt latches. -/
theorem ticksBetweenInstructionsChangeNoRegister : Obligations.TicksBetweenInstructionsChangeNoRegister := by
  intro s
  obtain ⟨⟨n, i, hcpu⟩, hram, hdots, hconfig⟩ := clockDevices_same (ppuDot s)
  rw [ppuDot_cpu] at hcpu
  refine ⟨fun h => ⟨?_, ?_⟩, fun h hcycles => ⟨?_, ?_⟩⟩
  · unfold step tick
    rw [if_neg (by simpa [State.cpuTick] using h)]
  · simp [countDot]
  · obtain ⟨h0, -⟩ | ⟨-, -, hstep⟩ | ⟨-, h0, -⟩ := step_cases s
    · exact absurd h h0
    · exact hstep
    · exact absurd h0 hcycles
  · simp [RegistersAre, SameWorking, countDot, countClock, hcpu, hram, hdots, hconfig]

theorem memRead_setPc (a p : Word) (s : State) :
    memRead a (s.setPc p) = ((memRead a s).1.setPc p, (memRead a s).2) := by
  have h := memRead_withCpu a s { s.cpu with pc := p }
  rw [show s.setPc p = s.withCpu { s.cpu with pc := p } from rfl, h]
  simp only [State.setPc, State.withCpu, memRead_cpu]

theorem memRead_setOpcode (a : Word) (op : Byte) (s : State) :
    memRead a (s.setOpcode op) = ((memRead a s).1.setOpcode op, (memRead a s).2) := by
  have h := memRead_withCpu a s { s.cpu with opcode := op }
  rw [show s.setOpcode op = s.withCpu { s.cpu with opcode := op } from rfl, h]
  simp only [State.setOpcode, State.withCpu, memRead_cpu]

theorem fetchByte_eq (s : State) :
    fetchByte s = ((memRead s.cpu.pc s).1.setPc (s.cpu.pc + 1), (memRead s.cpu.pc s).2) := by
  simp only [fetchByte, memRead_cpu]

/-- The decoder takes the instruction from the table at its first byte. -/
theorem decode_eq_ok {op : Byte} {l rest : List Byte} {i : Instr} (h : decode (op :: l) = .ok (i, rest)) :
    ∃ b1 b2, i = instrOf op b1 b2 := by
  unfold decode at h
  dsimp only at h
  split at h <;> cases h
  · exact ⟨0, 0, rfl⟩
  · exact ⟨_, 0, rfl⟩
  · exact ⟨_, _, rfl⟩

theorem length_instrOf (op b1 b2 : Byte) :
    (instrOf op b1 b2).length = (opcodeRow op).mode.operandBytes + 1 := by
  unfold Instr.length Instr.mode Instr.row
  rw [opcode_instrOf]

/-- The fetch reads the instruction's bytes one after the other and decodes them (R152). -/
theorem fetch_eq_of_decode (s : State) (i : Instr)
    (h : decode (readBytes i.length s.cpu.pc s).2 = .ok (i, [])) :
    fetch s =
      (((readBytes i.length s.cpu.pc s).1.setPc (s.cpu.pc + BitVec.ofNat 16 i.length)).setOpcode i.opcode, i) := by
  obtain ⟨b1, b2, hi⟩ := decode_eq_ok (by simpa only [Instr.length, readBytes] using h)
  have hop : i.opcode = (memRead s.cpu.pc s).2 := by rw [hi, opcode_instrOf]
  have hlen : i.length = (opcodeRow (memRead s.cpu.pc s).2).mode.operandBytes + 1 := by rw [hi, length_instrOf]
  rw [hlen] at h ⊢
  rw [hop]
  have hle := operandBytes_le (opcodeRow (memRead s.cpu.pc s).2).mode
  clear hi hlen hop
  unfold fetch
  simp only [fetchByte_eq]
  obtain hm | hm | hm : (opcodeRow (memRead s.cpu.pc s).2).mode.operandBytes = 0 ∨
      (opcodeRow (memRead s.cpu.pc s).2).mode.operandBytes = 1 ∨
      (opcodeRow (memRead s.cpu.pc s).2).mode.operandBytes = 2 := by omega
  all_goals
    rw [hm] at h ⊢
    simp only [readBytes, Nat.zero_add, Nat.reduceAdd] at h ⊢
  · rw [decode_noOperand _ _ hm] at h
    cases h
    rfl
  · rw [decode_byteOperand _ _ _ hm] at h
    cases h
    simp only [memRead_setOpcode, memRead_setPc, State.setPc_cpu_pc, State.setOpcode_cpu_pc, BitVec.add_assoc]
    rfl
  · rw [decode_wordOperand _ _ _ _ hm] at h
    cases h
    simp only [memRead_setOpcode, memRead_setPc, State.setPc_cpu_pc, State.setOpcode_cpu_pc, BitVec.add_assoc]
    rfl

/-- Settles O5. -/
theorem stepRunsTheDecodedInstruction : Obligations.StepRunsTheDecodedInstruction := by
  intro s i s2 r htick hcycles hnmi hirq hdecode
  have hclock : s.cpu.cycles = 0 := by
    obtain ⟨⟨n, l, hcpu⟩, -⟩ := clockDevices_same (ppuDot s)
    simpa [s2, hcpu] using hcycles
  have htaken : s2.irqTaken = false := by
    unfold State.irqTaken
    obtain h | h := hirq
    · simp [h]
    · have hflag : flagOf .i s2.cpu.p = true := h
      simp [hflag]
  obtain ⟨h0, -⟩ | ⟨-, h0, -⟩ | ⟨-, -, _, rfl, hstep⟩ := step_cases s
  · exact absurd htick h0
  · exact absurd hclock h0
  · obtain ⟨h, -⟩ | ⟨-, h, -⟩ | ⟨-, -, hb⟩ := boundary_cases s2
    · rw [hnmi] at h; cases h
    · rw [htaken] at h; cases h
    · rw [hstep, hb, fetch_eq_of_decode s2 i hdecode]
      unfold mapNext
      cases exec i _ <;> rfl
end Sys2Proof.Machine
end

section
/-! PROOF. The addressing modes and the data reads: the effective address in integer arithmetic, the pointer reads and
what a data read leaves alone (40_addressing.md R180 to R196). -/

namespace Sys2Proof.Machine

/-! ## Effective addresses in integer arithmetic -/

theorem zext16_eq (z : Byte) : zext16 z = BitVec.ofNat 16 z.toNat := by
  apply BitVec.eq_of_toNat_eq
  rw [zext16_toNat, BitVec.toNat_ofNat]
  omega

theorem zext16_add (z x : Byte) : zext16 (z + x) = BitVec.ofNat 16 ((z.toNat + x.toNat) % 256) := by
  rw [zext16_eq, BitVec.toNat_add]

theorem mkWord_add_zext16 (hi lo x : Byte) :
    mkWord hi lo + zext16 x = BitVec.ofNat 16 ((256 * hi.toNat + lo.toNat + x.toNat) % 65536) := by
  apply BitVec.eq_of_toNat_eq
  rw [BitVec.toNat_add, mkWord_toNat, zext16_toNat, BitVec.toNat_ofNat]
  omega

theorem word_page (hi lo : Byte) : (256 * hi.toNat + lo.toNat) / 256 = hi.toNat := by
  have := lo.isLt
  omega

/-- An index crosses the page of the indexed word exactly when the high byte changes (R194). -/
theorem pageCrossed_mkWord_add (hi lo x : Byte) :
    pageCrossed (mkWord hi lo) (mkWord hi lo + zext16 x) =
      decide ((256 * hi.toNat + lo.toNat + x.toNat) % 65536 / 256 ≠ hi.toNat) := by
  rw [pageCrossed_eq, mkWord_toNat, word_page, mkWord_add_zext16, BitVec.toNat_ofNat, Nat.mod_mod]

/-- Settles O8. -/
theorem directModesGiveTheirAddress : Obligations.DirectModesGiveTheirAddress := by
  intro b1 b2 s
  refine ⟨?_, ?_, ?_, ?_, ?_, ?_, rfl, rfl, rfl, rfl⟩ <;>
    dsimp only [access, modeZp, modeZpx, modeZpy, modeAbs, modeAbx, modeAby, Access.at]
  · rw [zext16_eq]
  · rw [zext16_add]
  · rw [zext16_add]
  · rw [mkWord_eq]
  · rw [pageCrossed_mkWord_add, mkWord_add_zext16]
  · rw [pageCrossed_mkWord_add, mkWord_add_zext16]

/-- A zero-page pointer, its high byte from the next zero-page address (R191, R192). -/
theorem zpRead16_wrap (z : Byte) (s : State) :
    zpRead16 z s = (s, mkWord (s.byteAt .ram ((z.toNat + 1) % 256)) (s.byteAt .ram (z.toNat % 256))) := by
  rw [zpRead16_eq, BitVec.toNat_add, Nat.mod_eq_of_lt z.isLt]
  rfl

/-- Settles O9. -/
theorem pointerModesReadTheirPointer : Obligations.PointerModesReadTheirPointer := by
  intro b1 b2 s
  refine ⟨?_, ?_, ?_⟩ <;> dsimp only [access, modeIzx, modeIzy, modeInd]
  · rw [zpRead16_wrap, BitVec.toNat_add, mkWord_eq]
    rfl
  · rw [zpRead16_wrap]
    dsimp only [Access.at]
    rw [pageCrossed_mkWord_add, mkWord_add_zext16]
    rw [word_page]
  · rw [hiByte_mkWord, loByte_mkWord, mkWord_eq, mkWord_eq, mkWord_eq, BitVec.toNat_add]
    rfl

/-! ## What a data read leaves alone (R180, R196) -/

theorem access_config (m : Mode) (b1 b2 : Byte) (s : State) :
    (access m b1 b2 s).state.config = s.config ∧ (access m b1 b2 s).state.dotCount = s.dotCount := by
  by_cases h : m = .ind
  · subst h
    simp [access, modeInd, Access.at]
  · obtain ⟨⟨-, -, -, hdots, hconfig⟩, -⟩ := access_outside m b1 b2 s h
    exact ⟨hconfig, hdots⟩

theorem load_config (o : Operand) (s : State) :
    (load o s).1.config = s.config ∧ (load o s).1.dotCount = s.dotCount := by
  cases o <;> simp [load]

theorem loadIn_config (i : Instr) (s : State) :
    (i.loadIn s).1.config = s.config ∧ (i.loadIn s).1.dotCount = s.dotCount := by
  obtain ⟨hconfig, hdots⟩ := load_config (i.accessIn s).operand (i.accessIn s).state
  obtain ⟨hconfig', hdots'⟩ := access_config i.mode i.operand1 i.operand2 (s.setDmaStall 0)
  exact ⟨hconfig.trans hconfig', hdots.trans hdots'⟩

/-- The immediate operand is the instruction's own byte (R183, R196). -/
theorem loadIn_imm (i : Instr) (s : State) (h : i.mode = .imm) :
    i.loadIn s = ((i.accessIn s).state.setFetched i.operand1, i.operand1) := by
  have hoperand : (i.accessIn s).operand = .immediate i.operand1 := by
    unfold Instr.accessIn
    rw [h]
    rfl
  unfold Instr.loadIn
  rw [hoperand]
  rfl

/-- The accumulator operand is A (R182, R196). -/
theorem loadIn_acc (i : Instr) (s : State) (h : i.mode = .acc) :
    i.loadIn s = ((s.setDmaStall 0).setFetched s.cpu.a, s.cpu.a) := by
  unfold Instr.loadIn Instr.accessIn
  rw [h]
  rfl

theorem loadIn_imm_outside (i : Instr) (s : State) (h : i.mode = .imm) : SameOutside s (i.loadIn s).1 := by
  rw [loadIn_imm i s h]
  exact (accessIn_outside i s (by rw [h]; decide)).trans (sameOutside_withCpu _ _)

theorem loadIn_acc_outside (i : Instr) (s : State) (h : i.mode = .acc) : SameOutside s (i.loadIn s).1 := by
  rw [loadIn_acc i s h]
  exact sameOutside_withCpu _ s

/-- Settles O10. -/
theorem dataReadsChangeNoRegisterAndNoByte : Obligations.DataReadsChangeNoRegisterAndNoByte := by
  intro i s r
  obtain ⟨rel, hcpu⟩ := loadIn_cpu i s
  obtain ⟨hconfig, hdots⟩ := loadIn_config i s
  refine ⟨?_, ?_, ?_, ?_, loadIn_bytes i s, hconfig, hdots, fun h => ⟨?_, loadIn_imm_outside i s h⟩,
    fun h => ⟨?_, loadIn_acc_outside i s h⟩, fun h h' => ?_, fun h hd => ?_⟩
  · simp [r, RegistersAre, hcpu]
  · simp [r, hcpu]
  · simp [r, SameLatches, hcpu]
  · simp [r, hcpu]
  · exact congrArg Prod.snd (loadIn_imm i s h)
  · exact congrArg Prod.snd (loadIn_acc i s h)
  · have hload := congrArg Prod.snd (load_memory i s h h').symm
    exact hload
  · by_cases himm : i.mode = .imm
    · exact loadIn_imm_outside i s himm
    by_cases hacc : i.mode = .acc
    · exact loadIn_acc_outside i s hacc
    exact loadIn_outside i s himm hacc h hd

end Sys2Proof.Machine
end

section
/-! PROOF. The instructions whose operation changes the CPU alone: loads, transfers, logic, adder, comparisons, flag
writes (41_load_store_transfer.md, 43_arith_logic.md, 46_flags_nop.md, 47_unofficial.md). -/

namespace Sys2Proof.Machine

/-! ## Between the data read and the operation -/

/-- The registers, flags and bytes of `s`, after the mode and the data read of an instruction that starts in `s`. -/
def Prepared (s b : State) : Prop :=
  (∃ ea rel m, b.cpu = { s.cpu with dmaStall := 0, addrAbs := ea, addrRel := rel, fetched := m }) ∧ SameBytes s b

theorem prepared_setDmaStall (s : State) : Prepared s (s.setDmaStall 0) :=
  ⟨⟨_, _, _, rfl⟩, (sameOutside_withCpu _ s).bytes⟩

theorem prepared_accessIn (i : Instr) (s : State) : Prepared s (i.accessIn s).state := by
  obtain ⟨rel, hcpu⟩ := accessIn_cpu i s
  exact ⟨⟨_, rel, _, hcpu⟩, accessIn_bytes i s⟩

theorem prepared_loadIn (i : Instr) (s : State) : Prepared s (i.loadIn s).1 := by
  obtain ⟨rel, hcpu⟩ := loadIn_cpu i s
  exact ⟨⟨_, rel, _, hcpu⟩, loadIn_bytes i s⟩

section
variable {s b : State} (h : Prepared s b)
include h

theorem Prepared.registers : RegistersAre b s.cpu.a s.cpu.x s.cpu.y s.cpu.sp s.cpu.pc := by
  obtain ⟨⟨ea, rel, m, hcpu⟩, -⟩ := h
  simp [RegistersAre, hcpu]

theorem Prepared.p : b.cpu.p = s.cpu.p := by
  obtain ⟨⟨ea, rel, m, hcpu⟩, -⟩ := h
  rw [hcpu]

theorem Prepared.flag (f : Flag) : b.flag f = s.flag f := congrArg (flagOf f) h.p

theorem Prepared.latches : SameLatches s b := by
  obtain ⟨⟨ea, rel, m, hcpu⟩, -⟩ := h
  simp [SameLatches, hcpu]

theorem Prepared.dmaStall : b.cpu.dmaStall = 0 := by
  obtain ⟨⟨ea, rel, m, hcpu⟩, -⟩ := h
  rw [hcpu]

end

/-- The operation changed registers and P, and nothing else. -/
def RegistersOnly (b u : State) : Prop :=
  u = b.withCpu
    { b.cpu with a := u.cpu.a, x := u.cpu.x, y := u.cpu.y, sp := u.cpu.sp, pc := u.cpu.pc, p := u.cpu.p }

theorem Prepared.ends {s b u : State} (h : Prepared s b) (hu : RegistersOnly b u) (n : Nat) :
    Ends s b (finishCycles n u) n ∧ SameOutside b (finishCycles n u) ∧ SameBytes s (finishCycles n u) := by
  have hlatches := h.latches
  have hstall := h.dmaStall
  have hout : SameOutside b (finishCycles n u) := by
    rw [hu]
    exact sameOutside_withCpu _ b
  refine ⟨?_, hout, h.2.trans hout.bytes⟩
  rw [hu]
  exact ⟨hlatches, ⟨rfl, rfl, rfl⟩, by simp [hstall], rfl⟩

/-- An instruction whose operation changes registers and P alone completes with these changes and its cycle total. -/
theorem completes_registersOnly (i : Instr) (s b u : State) (o : Operation) (h : i.operation = o)
    (ho : o ∉ ([.nop, .xaa, .lxa, .bpl, .bmi, .bvc, .bvs, .bcc, .bcs, .bne, .beq] : List Operation))
    (hb : Prepared s b) (hop : operationOf o (i.accessIn s).operand (i.accessIn s).state = u)
    (hu : RegistersOnly b u) :
    Completes i s fun t =>
      RegistersAre t u.cpu.a u.cpu.x u.cpu.y u.cpu.sp u.cpu.pc ∧ t.cpu.p = u.cpu.p ∧ Ends s b t (i.cost s) ∧
        SameOutside b t ∧ SameBytes s t := by
  refine completes_of i s o h ho _ ?_
  rw [hop]
  exact ⟨⟨rfl, rfl, rfl, rfl, rfl⟩, rfl, hb.ends hu _⟩

/-- The same when the operation ends with Z and N of a result. -/
theorem completes_flagsNZ (i : Instr) (s b w : State) (r : Byte) (o : Operation) (h : i.operation = o)
    (ho : o ∉ ([.nop, .xaa, .lxa, .bpl, .bmi, .bvc, .bvs, .bcc, .bcs, .bne, .beq] : List Operation))
    (hb : Prepared s b) (hop : operationOf o (i.accessIn s).operand (i.accessIn s).state = flagsNZ r w)
    (hw : RegistersOnly b w) (hp : w.cpu.p = b.cpu.p) :
    Completes i s fun t =>
      RegistersAre t w.cpu.a w.cpu.x w.cpu.y w.cpu.sp w.cpu.pc ∧ FlagsOfResult t r ∧ FlagsKeptBut [.z, .n] s t ∧
        Ends s b t (i.cost s) ∧ SameOutside b t ∧ SameBytes s t := by
  have hu : RegistersOnly b (flagsNZ r w) := by
    unfold RegistersOnly
    rw [flagsNZ_eq, hw]
    rfl
  obtain ⟨t, hexec, hregs, htp, hframe⟩ := completes_registersOnly i s b _ o h ho hb hop hu
  have hflag (f : Flag) : t.flag f = (flagsNZ r w).flag f := congrArg (flagOf f) htp
  refine ⟨t, hexec, hregs, ?_, ?_, hframe⟩
  · obtain ⟨hz, hn⟩ := flagsOfResult_flagsNZ r w
    exact ⟨(hflag .z).trans hz, (hflag .n).trans hn⟩
  · intro f hf
    simp only [List.mem_cons, List.not_mem_nil, or_false, not_or] at hf
    rw [hflag, State.flag_flagsNZ, if_neg hf.2, if_neg hf.1, ← hb.flag f]
    exact congrArg (flagOf f) hp

/-! ## Loads and logic -/

/-- Settles O11. -/
theorem loadsSetTheirRegister : Obligations.LoadsSetTheirRegister := by
  intro i s ho r
  have hb := prepared_loadIn i s
  obtain ⟨ha, hx, hy, hsp, hpc⟩ := hb.registers
  obtain h | h | h | h := ho
  · have hc := completes_flagsNZ i s r.1 (r.1.setA r.2) r.2 .lda h (by decide) hb rfl rfl rfl
    simpa [h, hx, hy, hsp, hpc, r] using hc
  · have hc := completes_flagsNZ i s r.1 (r.1.setX r.2) r.2 .ldx h (by decide) hb rfl rfl rfl
    simpa [h, ha, hy, hsp, hpc, r] using hc
  · have hc := completes_flagsNZ i s r.1 (r.1.setY r.2) r.2 .ldy h (by decide) hb rfl rfl rfl
    simpa [h, ha, hx, hsp, hpc, r] using hc
  · have hc := completes_flagsNZ i s r.1 ((r.1.setA r.2).setX r.2) r.2 .lax h (by decide) hb rfl rfl rfl
    simpa [h, hy, hsp, hpc, r] using hc

/-- BIT changes three flags (R258). -/
theorem bit_eq (i : Instr) (s : State) :
    operationOf .bit (i.accessIn s).operand (i.accessIn s).state =
      (((i.loadIn s).1.setFlag .z (decide ((i.loadIn s).1.cpu.a &&& (i.loadIn s).2 = 0))).setFlag .n
        ((i.loadIn s).2.getLsbD 7)).setFlag .v ((i.loadIn s).2.getLsbD 6) := rfl

/-- Settles O16. -/
theorem logicSetsAccumulatorAndBitTests : Obligations.LogicSetsAccumulatorAndBitTests := by
  intro i s r
  have hb := prepared_loadIn i s
  obtain ⟨ha, hx, hy, hsp, hpc⟩ := hb.registers
  constructor
  · rintro (h | h | h)
    · have hc := completes_flagsNZ i s r.1 (r.1.setA (r.1.cpu.a &&& r.2)) (r.1.cpu.a &&& r.2) .and h (by decide) hb rfl rfl
        rfl
      simpa [h, ha, hx, hy, hsp, hpc, r] using hc
    · have hc := completes_flagsNZ i s r.1 (r.1.setA (r.1.cpu.a ||| r.2)) (r.1.cpu.a ||| r.2) .ora h (by decide) hb rfl rfl
        rfl
      simpa [h, ha, hx, hy, hsp, hpc, r] using hc
    · have hc := completes_flagsNZ i s r.1 (r.1.setA (r.1.cpu.a ^^^ r.2)) (r.1.cpu.a ^^^ r.2) .eor h (by decide) hb rfl rfl
        rfl
      simpa [h, ha, hx, hy, hsp, hpc, r] using hc
  · intro h
    obtain ⟨t, hexec, hregs, hp, hframe⟩ :=
      completes_registersOnly i s r.1 _ .bit h (by decide) hb (bit_eq i s) rfl
    have hflag (f : Flag) : t.flag f = if f = .v then r.2.getLsbD 6 else if f = .n then r.2.getLsbD 7
        else if f = .z then decide (r.1.cpu.a &&& r.2 = 0) else r.1.flag f := by
      rw [← State.flag_setFlag .z f _ r.1, ← State.flag_setFlag .n, ← State.flag_setFlag .v]
      exact congrArg (flagOf f) hp
    refine ⟨t, hexec, by simpa [ha, hx, hy, hsp, hpc, r] using hregs, ?_, ?_, ?_, fun f hf => ?_, hframe⟩
    · simp [hflag, ha, r]
    · exact (hflag .n).trans (getLsbD_seven r.2)
    · exact (hflag .v).trans (getLsbD_six r.2)
    · simp at hf
      simp [hflag, hf, hb.flag, r]

/-! ## The adder and the comparisons -/

/-- An addition completes: A, C, V, Z and N of the sum with a byte `m` (R250 to R254). -/
theorem completes_addCore (i : Instr) (s : State) (m : Byte) (o : Operation) (h : i.operation = o)
    (ho : o ∉ ([.nop, .xaa, .lxa, .bpl, .bmi, .bvc, .bvs, .bcc, .bcs, .bne, .beq] : List Operation))
    (hop : operationOf o (i.accessIn s).operand (i.accessIn s).state = addCore m (i.loadIn s).1) :
    let signed : Int := s.cpu.a.toInt + m.toInt + (s.flag .c).toNat
    Completes i s fun t =>
      RegistersAre t (BitVec.ofInt 8 signed) s.cpu.x s.cpu.y s.cpu.sp s.cpu.pc ∧
      t.flag .c = decide (255 < s.cpu.a.toNat + m.toNat + (s.flag .c).toNat) ∧
      t.flag .v = decide (signed < -128 ∨ 127 < signed) ∧ FlagsOfResult t (BitVec.ofInt 8 signed) ∧
      FlagsKeptBut [.c, .z, .v, .n] s t ∧ Ends s (i.loadIn s).1 t (i.cost s) ∧ SameOutside (i.loadIn s).1 t ∧
      SameBytes s t := by
  intro signed
  have hb := prepared_loadIn i s
  obtain ⟨ha, hx, hy, hsp, hpc⟩ := hb.registers
  obtain ⟨p, heq, hc, hv, hz, hn, hkept⟩ := addCore_spec m (i.loadIn s).1
  rw [ha, hb.flag] at heq hc hv hz hn
  obtain ⟨t, hexec, hregs, hp, hframe⟩ := completes_registersOnly i s _ _ o h ho hb (hop.trans heq) rfl
  have hflag (f : Flag) : t.flag f = flagOf f p := congrArg (flagOf f) hp
  refine ⟨t, hexec, by simpa [hx, hy, hsp, hpc] using hregs, (hflag _).trans hc, (hflag _).trans hv,
    ⟨(hflag _).trans hz, (hflag _).trans hn⟩, fun f hf => ?_, hframe⟩
  rw [hflag, hkept f hf, hb.flag]

/-- A subtraction with borrow is the addition of the complement with carry (R254). -/
theorem complement_signed (a m : Byte) (c : Bool) :
    a.toInt + (m ^^^ 0xFF).toInt + c.toNat = a.toInt - m.toInt - (1 - c.toNat) := by
  rw [complement_toInt]
  omega

theorem complement_carry (a m : Byte) (c : Bool) :
    decide (255 < a.toNat + (m ^^^ 0xFF).toNat + c.toNat) = decide (m.toNat + (1 - c.toNat) ≤ a.toNat) := by
  have := m.isLt
  rw [complement_toNat]
  apply decide_eq_decide.mpr
  cases c <;> simp only [Bool.toNat_false, Bool.toNat_true] <;> omega

/-- Settles O15: SBC adds the complement of its operand. -/
theorem adcSbcAreBinaryWithCarryAndOverflow : Obligations.AdcSbcAreBinaryWithCarryAndOverflow := by
  intro i s ho r c sum signed
  obtain h | h := ho
  · have hc := completes_addCore i s r.2 .adc h (by decide) rfl
    simpa [h, signed, sum, c, r] using hc
  · have hc := completes_addCore i s (r.2 ^^^ 0xFF) .sbc h (by decide) rfl
    rw [complement_signed, complement_carry] at hc
    simpa [h, signed, c, r] using hc

/-- A comparison completes with C, Z and N alone changed (R259). -/
theorem completes_compare (i : Instr) (s : State) (reg : Byte) (o : Operation) (h : i.operation = o)
    (ho : o ∉ ([.nop, .xaa, .lxa, .bpl, .bmi, .bvc, .bvs, .bcc, .bcs, .bne, .beq] : List Operation))
    (hop : operationOf o (i.accessIn s).operand (i.accessIn s).state =
      compare reg (i.loadIn s).2 (i.loadIn s).1) :
    let m := (i.loadIn s).2
    Completes i s fun t =>
      RegistersAre t s.cpu.a s.cpu.x s.cpu.y s.cpu.sp s.cpu.pc ∧
      t.flag .c = decide (m.toNat ≤ reg.toNat) ∧ t.flag .z = decide (m.toNat = reg.toNat) ∧
      t.flag .n = decide (128 ≤ (reg.toNat + 256 - m.toNat) % 256) ∧ FlagsKeptBut [.c, .z, .n] s t ∧
      Ends s (i.loadIn s).1 t (i.cost s) ∧ SameOutside (i.loadIn s).1 t ∧ SameBytes s t := by
  intro m
  have hb := prepared_loadIn i s
  obtain ⟨p, heq, hc, hz, hn, hkept⟩ := compare_spec reg m (i.loadIn s).1
  obtain ⟨t, hexec, hregs, hp, hframe⟩ := completes_registersOnly i s _ _ o h ho hb (hop.trans heq) rfl
  have hflag (f : Flag) : t.flag f = flagOf f p := congrArg (flagOf f) hp
  obtain ⟨ha, hx, hy, hsp, hpc⟩ := hb.registers
  refine ⟨t, hexec, by simpa [ha, hx, hy, hsp, hpc] using hregs, (hflag _).trans hc, (hflag _).trans hz,
    (hflag _).trans hn, fun f hf => ?_, hframe⟩
  rw [hflag, hkept f hf, hb.flag]

/-- Settles O17. -/
theorem comparesSetFlagsOnly : Obligations.ComparesSetFlagsOnly := by
  intro i s ho r reg
  obtain ⟨ha, hx, hy, -, -⟩ := (prepared_loadIn i s).registers
  obtain h | h | h := ho
  · exact completes_compare i s reg .cmp h (by decide) (by rw [show reg = s.cpu.a by simp [reg, h], ← ha]; rfl)
  · exact completes_compare i s reg .cpx h (by decide) (by rw [show reg = s.cpu.x by simp [reg, h], ← hx]; rfl)
  · exact completes_compare i s reg .cpy h (by decide) (by rw [show reg = s.cpu.y by simp [reg, h], ← hy]; rfl)

/-! ## Transfers, counts and flag writes: implied instructions of two cycles -/

/-- The operations on registers and flags alone. -/
def registerOperations : List Operation :=
  [.tax, .tay, .txa, .tya, .tsx, .txs, .inx, .iny, .dex, .dey, .clc, .sec, .cli, .sei, .clv, .cld, .sed]

theorem not_special_of_registerOperations : ∀ o ∈ registerOperations,
    o ∉ ([.nop, .xaa, .lxa, .bpl, .bmi, .bvc, .bvs, .bcc, .bcs, .bne, .beq] : List Operation) := by
  decide

set_option maxRecDepth 100000 in
theorem register_row (i : Instr) (h : i.operation ∈ registerOperations) : i.mode = .imp ∧ i.row.cycles = 2 :=
  all_rows (q := fun r => r.operation ∈ registerOperations → r.mode = .imp ∧ r.cycles = 2) (by decide) i h

theorem accessIn_imp (i : Instr) (s : State) (h : i.mode = .imp) :
    i.accessIn s = { state := s.setDmaStall 0, operand := .memory, crossed := false } := by
  unfold Instr.accessIn
  rw [h]
  rfl

theorem cost_imp (i : Instr) (s : State) (h : i.mode = .imp) : i.cost s = i.row.cycles := by
  unfold Instr.cost
  rw [accessIn_imp i s h]
  rfl

theorem completes_register (i : Instr) (s u : State) (o : Operation) (h : i.operation = o)
    (ho : o ∈ registerOperations) (hop : operationOf o .memory (s.setDmaStall 0) = u)
    (hu : RegistersOnly (s.setDmaStall 0) u) :
    Completes i s fun t =>
      RegistersAre t u.cpu.a u.cpu.x u.cpu.y u.cpu.sp u.cpu.pc ∧ t.cpu.p = u.cpu.p ∧ Ends s s t 2 ∧
        SameOutside s t ∧ SameBytes s t := by
  obtain ⟨hmode, hcycles⟩ := register_row i (h ▸ ho)
  rw [← (cost_imp i s hmode).trans hcycles]
  exact completes_registersOnly i s (s.setDmaStall 0) u o h (not_special_of_registerOperations o ho)
    (prepared_setDmaStall s) (by rw [accessIn_imp i s hmode]; exact hop) hu

/-- A transfer or a count ends with Z and N of the byte. -/
theorem completes_register_flagsNZ (i : Instr) (s w : State) (r : Byte) (o : Operation) (h : i.operation = o)
    (ho : o ∈ registerOperations) (hop : operationOf o .memory (s.setDmaStall 0) = flagsNZ r w)
    (hw : RegistersOnly (s.setDmaStall 0) w) (hp : w.cpu.p = s.cpu.p) :
    Completes i s fun t =>
      RegistersAre t w.cpu.a w.cpu.x w.cpu.y w.cpu.sp w.cpu.pc ∧ (FlagsOfResult t r ∧ FlagsKeptBut [.z, .n] s t) ∧
        Ends s s t 2 ∧ SameOutside s t ∧ SameBytes s t := by
  obtain ⟨hmode, hcycles⟩ := register_row i (h ▸ ho)
  rw [← (cost_imp i s hmode).trans hcycles]
  obtain ⟨t, hexec, hregs, hresult, hkept, hframe⟩ :=
    completes_flagsNZ i s (s.setDmaStall 0) w r o h (not_special_of_registerOperations o ho) (prepared_setDmaStall s)
      (by rw [accessIn_imp i s hmode]; exact hop) hw hp
  exact ⟨t, hexec, hregs, ⟨hresult, hkept⟩, hframe⟩

theorem byte_succ (b : Byte) : b + 1 = BitVec.ofNat 8 ((b.toNat + 1) % 256) := by bv_omega

theorem byte_pred (b : Byte) : b - 1 = BitVec.ofNat 8 ((b.toNat + 255) % 256) := by bv_omega

/-- Settles O13. -/
theorem registerInstructionsChangeOneRegister : Obligations.RegisterInstructionsChangeOneRegister := by
  intro i s
  constructor
  · rintro (h | h | h | h | h | h) v
    · have hc := completes_register_flagsNZ i s ((s.setDmaStall 0).setX s.cpu.a) s.cpu.a .tax h (by decide) rfl rfl rfl
      simpa [h, v] using hc
    · have hc := completes_register_flagsNZ i s ((s.setDmaStall 0).setY s.cpu.a) s.cpu.a .tay h (by decide) rfl rfl rfl
      simpa [h, v] using hc
    · have hc := completes_register_flagsNZ i s ((s.setDmaStall 0).setA s.cpu.x) s.cpu.x .txa h (by decide) rfl rfl rfl
      simpa [h, v] using hc
    · have hc := completes_register_flagsNZ i s ((s.setDmaStall 0).setA s.cpu.y) s.cpu.y .tya h (by decide) rfl rfl rfl
      simpa [h, v] using hc
    · have hc := completes_register_flagsNZ i s ((s.setDmaStall 0).setX s.cpu.sp) s.cpu.sp .tsx h (by decide) rfl rfl
        rfl
      simpa [h, v] using hc
    · have hc := completes_register i s ((s.setDmaStall 0).setSp s.cpu.x) .txs h (by decide) rfl rfl
      simpa [h, v] using hc
  · rintro (h | h | h | h) v
    · have hc := completes_register_flagsNZ i s ((s.setDmaStall 0).setX (s.cpu.x + 1)) (s.cpu.x + 1) .inx h (by decide)
        rfl rfl rfl
      rw [byte_succ] at hc
      simpa [h, v, and_assoc] using hc
    · have hc := completes_register_flagsNZ i s ((s.setDmaStall 0).setY (s.cpu.y + 1)) (s.cpu.y + 1) .iny h (by decide)
        rfl rfl rfl
      rw [byte_succ] at hc
      simpa [h, v, and_assoc] using hc
    · have hc := completes_register_flagsNZ i s ((s.setDmaStall 0).setX (s.cpu.x - 1)) (s.cpu.x - 1) .dex h (by decide)
        rfl rfl rfl
      rw [byte_pred] at hc
      simpa [h, v, and_assoc] using hc
    · have hc := completes_register_flagsNZ i s ((s.setDmaStall 0).setY (s.cpu.y - 1)) (s.cpu.y - 1) .dey h (by decide)
        rfl rfl rfl
      rw [byte_pred] at hc
      simpa [h, v, and_assoc] using hc

/-- Settles O23. -/
theorem flagInstructionsWriteOneFlag : Obligations.FlagInstructionsWriteOneFlag := by
  intro i s f v hmem
  obtain ⟨ho, hop⟩ : i.operation ∈ registerOperations ∧
      operationOf i.operation .memory (s.setDmaStall 0) = (s.setDmaStall 0).setFlag f v := by
    simp only [List.mem_cons, Prod.mk.injEq, List.not_mem_nil, or_false] at hmem
    obtain ⟨h, rfl, rfl⟩ | ⟨h, rfl, rfl⟩ | ⟨h, rfl, rfl⟩ | ⟨h, rfl, rfl⟩ | ⟨h, rfl, rfl⟩ | ⟨h, rfl, rfl⟩ |
      ⟨h, rfl, rfl⟩ := hmem <;> rw [h] <;> exact ⟨by decide, rfl⟩
  obtain ⟨t, hexec, hregs, hp, hframe⟩ := completes_register i s _ _ rfl ho hop rfl
  have hflag (g : Flag) : t.flag g = if g = f then v else s.flag g :=
    (congrArg (flagOf g) hp).trans (flagOf_putFlag f g v s.cpu.p)
  refine ⟨t, hexec, hregs, (hflag f).trans (if_pos rfl), fun g hg => ?_, hframe⟩
  rw [hflag, if_neg (by simpa using hg)]

/-! ## ANC, ALR and ARR (R349 to R351) -/

set_option maxRecDepth 100000 in
theorem immediate_row (i : Instr) (h : i.operation ∈ ([.anc, .alr, .arr] : List Operation)) :
    i.mode = .imm ∧ i.row.cycles = 2 :=
  all_rows (q := fun r => r.operation ∈ ([.anc, .alr, .arr] : List Operation) → r.mode = .imm ∧ r.cycles = 2)
    (by decide) i h

/-- P with Z and N of a result. -/
def resultP (r p : Byte) : Byte := putFlag .n (r.getLsbD 7) (putFlag .z (decide (r = 0)) p)

theorem flagsNZ_eq_setP (r : Byte) (s : State) : flagsNZ r s = s.setP (resultP r s.cpu.p) := rfl

theorem flagOf_p (f : Flag) (s : State) : flagOf f s.cpu.p = s.flag f := rfl

theorem flagOf_resultP (f : Flag) (r p : Byte) :
    flagOf f (resultP r p) =
      if f = .n then decide (128 ≤ r.toNat) else if f = .z then decide (r = 0) else flagOf f p := by
  unfold resultP
  rw [flagOf_putFlag, flagOf_putFlag, getLsbD_seven]

/-- An instruction on A and the immediate byte: `r` and `p` are A and P at the end. -/
theorem completes_immediate (i : Instr) (s : State) (r p : Byte) (o : Operation) (h : i.operation = o)
    (ho : o ∈ ([.anc, .alr, .arr] : List Operation))
    (hop : operationOf o (i.accessIn s).operand (i.accessIn s).state = ((i.loadIn s).1.setA r).setP p) :
    Completes i s fun t =>
      RegistersAre t r s.cpu.x s.cpu.y s.cpu.sp s.cpu.pc ∧ (∀ f, t.flag f = flagOf f p) ∧
        Ends s (i.loadIn s).1 t 2 ∧ SameOutside s t ∧ SameBytes s t := by
  obtain ⟨hmode, hcycles⟩ := immediate_row i (h ▸ ho)
  have hcost : i.cost s = 2 := by
    unfold Instr.cost Instr.accessIn
    rw [hmode, hcycles]
    rfl
  have hb := prepared_loadIn i s
  obtain ⟨-, hx, hy, hsp, hpc⟩ := hb.registers
  obtain ⟨t, hexec, hregs, hp, hends, hout, hbytes⟩ := completes_registersOnly i s _ _ o h
    (by clear hop h; revert o; decide) hb hop rfl
  rw [hcost] at hends
  exact ⟨t, hexec, by simpa [hx, hy, hsp, hpc] using hregs, fun f => congrArg (flagOf f) hp, hends,
    (loadIn_imm_outside i s hmode).trans hout, hbytes⟩

/-- Settles O27. -/
theorem immediateAndOpcodes : Obligations.ImmediateAndOpcodes := by
  intro i s ho m v
  have hb := prepared_loadIn i s
  have hm : (i.loadIn s).1.cpu.a &&& (i.loadIn s).2 = m := by
    rw [hb.registers.1, loadIn_imm i s (immediate_row i (by simpa using ho)).1]
  obtain h | h | h := ho
  · have hv : v = m := by simp [v, h]
    obtain ⟨t, hexec, hregs, hflag, hframe⟩ := completes_immediate i s v
      (putFlag .c (v.getLsbD 7) (resultP v s.cpu.p)) .anc h (by decide) (by rw [hv, ← hm, ← hb.p]; rfl)
    simp only [flagOf_putFlag, flagOf_resultP, flagOf_p, getLsbD_seven] at hflag
    refine ⟨t, hexec, hregs, ⟨hflag .z, hflag .n⟩, ?_, ?_, fun f hf => ?_, hframe⟩
    · simp [hflag, h]
    · simpa [h] using hflag .v
    · simp at hf
      simp [hflag, hf]
  · have hv : shiftRight m = (v, decide (m.toNat % 2 = 1)) := by
      rw [shiftRight_eq (s.flag .c)]
      simp [shiftResult, v, h]
    obtain ⟨t, hexec, hregs, hflag, hframe⟩ := completes_immediate i s (shiftRight m).1
      (resultP (shiftRight m).1 (putFlag .c (shiftRight m).2 s.cpu.p)) .alr h (by decide) (by rw [← hm, ← hb.p]; rfl)
    rw [hv] at hregs hflag
    simp only [flagOf_putFlag, flagOf_resultP, flagOf_p] at hflag
    refine ⟨t, hexec, hregs, ⟨hflag .z, hflag .n⟩, ?_, ?_, fun f hf => ?_, hframe⟩
    · simp [hflag, h]
    · simpa [h] using hflag .v
    · simp at hf
      simp [hflag, hf]
  · have hv : (rotateRight (s.flag .c) m).1 = v := by
      rw [rotateRight_eq]
      simp [shiftResult, v, h]
    obtain ⟨t, hexec, hregs, hflag, hframe⟩ := completes_immediate i s v
      (putFlag .v (v.getLsbD 6 ^^ v.getLsbD 5) (putFlag .c (v.getLsbD 6) (resultP v s.cpu.p))) .arr h (by decide)
      (by rw [← hv, ← hm, ← hb.flag, ← hb.p]; rfl)
    simp only [flagOf_putFlag, flagOf_resultP, flagOf_p, getLsbD_six, getLsbD_five] at hflag
    refine ⟨t, hexec, hregs, ⟨hflag .z, hflag .n⟩, ?_, ?_, fun f hf => ?_, hframe⟩
    · simp [hflag, h]
    · simp [hflag, h]
    · simp at hf
      simp [hflag, hf]

/-! ## The opcodes that only read their operand (R360 to R372) -/

/-- NOP, the unstable and the unhandled operations. -/
def idleOperations : List Operation := [.nop, .xaa, .lxa, .jam, .sha, .tas, .shy, .shx, .las, .sbx, .usbc]

set_option maxRecDepth 100000 in
theorem idle_row (i : Instr) (h : i.operation ∈ idleOperations) :
    i.mode ≠ .rel ∧ (i.mode ≠ .imp → i.operation = .nop ∨ i.operation = .xaa ∨ i.operation = .lxa) :=
  all_rows (q := fun r => r.operation ∈ idleOperations →
    r.mode ≠ .rel ∧ (r.mode ≠ .imp → r.operation = .nop ∨ r.operation = .xaa ∨ r.operation = .lxa)) (by decide) i h

theorem operationOf_idle : ∀ o ∈ idleOperations, operationOf o = opNothing := by
  simp only [idleOperations, List.forall_mem_cons]
  exact ⟨rfl, rfl, rfl, rfl, rfl, rfl, rfl, rfl, rfl, rfl, rfl, fun _ h => absurd h List.not_mem_nil⟩

/-- The work of these opcodes is the data read of an operand, if they have one. -/
theorem instrWork_idle (i : Instr) (h : i.operation ∈ idleOperations) (o : Operand) (s : State) :
    instrWork i o s = if i.mode = .imp then s else (load o s).1 := by
  unfold instrWork
  by_cases hm : i.mode = .imp
  · rw [if_neg (by simp [hm]), if_pos hm, operationOf_idle _ h]
    rfl
  · rw [if_pos ⟨(idle_row i h).2 hm, hm⟩, if_neg hm]
    rfl

/-- Settles O24. -/
theorem nopsOnlyReadTheirOperand : Obligations.NopsOnlyReadTheirOperand := by
  intro i s h r
  have hexec := exec_next i s (idle_row i h).1
  rw [instrWork_idle i h] at hexec
  by_cases hm : i.mode = .imp
  · rw [if_pos hm, accessIn_imp i s hm] at hexec
    have hb := prepared_setDmaStall s
    refine ⟨_, hexec, ⟨rfl, rfl, rfl, rfl, rfl⟩, rfl, ?_⟩
    rw [show r = s from if_pos hm]
    exact hb.ends (u := s.setDmaStall 0) rfl _
  · rw [if_neg hm] at hexec
    have hb := prepared_loadIn i s
    refine ⟨_, hexec, hb.registers, hb.p, ?_⟩
    rw [show r = (i.loadIn s).1 from if_neg hm]
    exact hb.ends (u := (i.loadIn s).1) rfl _

end Sys2Proof.Machine
end

section
/-! PROOF. The stack and the flow of control: pushes and pulls, JMP, JSR, the branches, BRK, the interrupt entries and
the returns that undo them (42_stack.md, 45_control_flow.md, 60_exceptions.md). -/

namespace Sys2Proof.Machine

/-! ## Pushes: the frame outside the CPU -/

theorem SameDevices.trans {s t u : State} (h : SameDevices s t) (k : SameDevices t u) : SameDevices s u := by
  obtain ⟨h1, h2, h3, h4, h5⟩ := h
  obtain ⟨k1, k2, k3, k4, k5⟩ := k
  exact ⟨k1.trans h1, k2.trans h2, k3.trans h3, k4.trans h4, k5.trans h5⟩

/-- P as a push writes it (R243, R410). -/
theorem pushedP_true (p : Byte) : pushedP true p = p ||| 0x30 := by
  revert p
  decide

theorem pushedP_false (p : Byte) : pushedP false p = (p &&& 0xEF) ||| 0x20 := by
  revert p
  decide

/-! ## PHA, PHP, PLA and PLP -/

set_option maxRecDepth 100000 in
theorem push_row (i : Instr) (h : i.operation = .pha ∨ i.operation = .php) : i.mode = .imp ∧ i.row.cycles = 3 :=
  all_rows (q := fun r => r.operation = .pha ∨ r.operation = .php → r.mode = .imp ∧ r.cycles = 3) (by decide) i h

set_option maxRecDepth 100000 in
theorem pull_row (i : Instr) (h : i.operation = .pla ∨ i.operation = .plp) : i.mode = .imp ∧ i.row.cycles = 4 :=
  all_rows (q := fun r => r.operation = .pla ∨ r.operation = .plp → r.mode = .imp ∧ r.cycles = 4) (by decide) i h

/-- A push instruction completes with its byte pushed. -/
theorem completes_push (i : Instr) (s : State) (v : Byte) (o : Operation) (h : i.operation = o)
    (ho : o = .pha ∨ o = .php) (hop : operationOf o .memory (s.setDmaStall 0) = push v (s.setDmaStall 0)) :
    Completes i s fun t =>
      RegistersAre t s.cpu.a s.cpu.x s.cpu.y (s.cpu.sp - 1) s.cpu.pc ∧ t.cpu.p = s.cpu.p ∧ Ends s s t 3 ∧
        SameDevices s t ∧ t.cart = s.cart ∧ (s.MemoriesOk → PushedBytes s t [(s.cpu.sp, v)]) := by
  obtain ⟨hmode, hcycles⟩ := push_row i (h ▸ ho)
  refine completes_implied i s o h (by rcases ho with rfl | rfl <;> decide) hmode _ ?_
  rw [hop, hcycles]
  refine ⟨by simp [RegistersAre], by simp, by simp [Ends, SameLatches, SameWorking], by simp [SameDevices], by simp,
    fun hm => ?_⟩
  exact (push_pushed v s (s.setDmaStall 0) [] hm.1.1 (pushedBytes_nil s)).same (sameOutside_withCpu _ _)

/-- A pull instruction that changes registers and P alone completes. -/
theorem completes_pull (i : Instr) (s u : State) (o : Operation) (h : i.operation = o) (ho : o = .pla ∨ o = .plp)
    (hop : operationOf o .memory (s.setDmaStall 0) = u) (hu : RegistersOnly (s.setDmaStall 0) u) :
    Completes i s fun t =>
      RegistersAre t u.cpu.a u.cpu.x u.cpu.y u.cpu.sp u.cpu.pc ∧ t.cpu.p = u.cpu.p ∧ Ends s s t 4 ∧
        SameOutside s t ∧ SameBytes s t := by
  obtain ⟨hmode, hcycles⟩ := pull_row i (h ▸ ho)
  rw [← (cost_imp i s hmode).trans hcycles]
  exact completes_registersOnly i s (s.setDmaStall 0) u o h (by rcases ho with rfl | rfl <;> decide)
    (prepared_setDmaStall s) (by rw [accessIn_imp i s hmode]; exact hop) hu

/-- Settles O14. -/
theorem stackInstructionsPushAndPullOneByte : Obligations.StackInstructionsPushAndPullOneByte := by
  intro i s
  constructor
  · rintro (h | h)
    · have hc := completes_push i s s.cpu.a .pha h (.inl rfl) rfl
      simpa [h] using hc
    · have hc := completes_push i s (pushedP true s.cpu.p) .php h (.inr rfl) rfl
      simpa [h, pushedP_true] using hc
  · rintro (h | h) v
    · obtain ⟨t, hexec, hregs, hp, hframe⟩ := completes_pull i s
        (flagsNZ v (((s.setDmaStall 0).setSp (s.cpu.sp + 1)).setA v)) .pla h (.inl rfl)
        (by simp only [operationOf, opPla, pull_eq]; rfl) rfl
      have hflag (f : Flag) : t.flag f = flagOf f (resultP v s.cpu.p) := congrArg (flagOf f) hp
      simp only [flagOf_resultP, flagOf_p] at hflag
      refine ⟨t, hexec, by simpa [h] using hregs, ?_, hframe⟩
      rw [if_pos h]
      refine ⟨⟨hflag .z, hflag .n⟩, fun f hf => ?_⟩
      simp at hf
      simp [hflag, hf]
    · obtain ⟨t, hexec, hregs, hp, hframe⟩ := completes_pull i s
        (((s.setDmaStall 0).setSp (s.cpu.sp + 1)).setP (pulledP v)) .plp h (.inr rfl)
        (by simp only [operationOf, opPlp, pull_eq]; rfl) rfl
      have hflag (f : Flag) := congrArg (flagOf f) hp
      simp only [State.setP_cpu_p, flagOf_pulledP] at hflag
      refine ⟨t, hexec, by simpa [h] using hregs, ?_, hframe⟩
      rw [if_neg (by simp [h])]
      exact ⟨hflag .b, hflag .u, fun f hb hu => by rw [State.flag, hflag, if_neg hb, if_neg hu]⟩

/-! ## JMP and JSR -/

set_option maxRecDepth 100000 in
theorem jmp_row (i : Instr) (h : i.operation = .jmp) : i.row.paysCross = false :=
  all_rows (q := fun r => r.operation = .jmp → r.paysCross = false) (by decide) i h

set_option maxRecDepth 100000 in
theorem jsr_row (i : Instr) (h : i.operation = .jsr) :
    i.mode = .abs ∧ i.row.cycles = 6 ∧ i.row.paysCross = false :=
  all_rows (q := fun r => r.operation = .jsr → r.mode = .abs ∧ r.cycles = 6 ∧ r.paysCross = false) (by decide) i h

theorem cost_of_notPaying (i : Instr) (s : State) (h : i.row.paysCross = false) : i.cost s = i.row.cycles := by
  simp [Instr.cost, h]

theorem pushWord_pushed (w : Word) (s t : State) (h : t.ram.wf = true) (hs : SameOutside s t) :
    PushedBytes s (pushWord w t) [(t.cpu.sp - 1, loByte w), (t.cpu.sp, hiByte w)] := by
  have h1 := push_pushed (hiByte w) t t [] h (pushedBytes_nil t)
  have h2 := push_pushed (loByte w) t (push (hiByte w) t) _ (push_ram_wf _ t h) h1
  rw [push_cpu] at h2
  exact h2.start hs

theorem pushWord_cpu (w : Word) (s : State) : (pushWord w s).cpu = { s.cpu with sp := s.cpu.sp - 2 } := by
  have hsp : s.cpu.sp - 1 - 1 = s.cpu.sp - 2 := by bv_omega
  simp only [pushWord, push_cpu, hsp]

theorem pushWord_devices (w : Word) (s : State) :
    SameDevices s (pushWord w s) ∧ (pushWord w s).cart = s.cart := by
  simp [pushWord, SameDevices]

/-- The return address goes to the stack, then PC takes the mode's address (R302). -/
theorem opJsr_eq (o : Operand) (s : State) :
    opJsr o s = (pushWord (s.cpu.pc - 1) s).setPc s.cpu.addrAbs := by
  simp only [opJsr, pushWord_cpu]

/-- Settles O19. -/
theorem jumpsSetPc : Obligations.JumpsSetPc := by
  intro i s
  have hb := prepared_accessIn i s
  obtain ⟨ha, hx, hy, hsp, hpc⟩ := hb.registers
  constructor
  · intro h
    obtain ⟨t, hexec, hregs, hp, hframe⟩ := completes_registersOnly i s (i.accessIn s).state
      ((i.accessIn s).state.setPc (i.address s)) .jmp h (by decide) hb rfl rfl
    rw [cost_of_notPaying i s (jmp_row i h)] at hframe
    exact ⟨t, hexec, by simpa [ha, hx, hy, hsp] using hregs, hp.trans hb.p, hframe⟩
  · intro h ret
    obtain ⟨hmode, hcycles, hpays⟩ := jsr_row i h
    have hout := accessIn_outside i s (by rw [hmode]; decide)
    refine completes_of i s .jsr h (by decide) _ ?_
    rw [cost_of_notPaying i s hpays, hcycles, show operationOf .jsr = opJsr from rfl, opJsr_eq, hpc]
    obtain ⟨hdev, hcart⟩ := pushWord_devices ret (i.accessIn s).state
    have hlatches := hb.latches
    have hpushed := fun hm : s.MemoriesOk =>
      pushWord_pushed ret s (i.accessIn s).state (memoriesOk_of_sameOutside hout hm).1.1 hout
    rw [hsp, loByte_eq, hiByte_eq] at hpushed
    have hcpu := pushWord_cpu ret (i.accessIn s).state
    generalize pushWord ret (i.accessIn s).state = u at *
    refine ⟨?_, ?_, ?_, hout.1.trans hdev, hcart.trans hout.2.2, fun hm => (hpushed hm).same (sameOutside_withCpu _ u)⟩
    · simp [RegistersAre, hcpu, ha, hx, hy, hsp, Instr.address]
    · simp [hcpu, hb.p]
    · refine ⟨?_, ?_, ?_, rfl⟩
      · simpa [SameLatches, hcpu] using hlatches
      · simp [SameWorking, hcpu]
      · simp [hcpu, hb.dmaStall]

/-! ## Branches (R306 to R314) -/

/-- A branch is taken on its flag, whatever the working fields hold. -/
theorem branchTest_setAddrRel (o : Operation) (w : Word) (s : State) :
    branchTest o ((s.setDmaStall 0).setAddrRel w) = branchTest o s := by
  cases o <;> rfl

/-- The cycle total of a branch: one more when taken, two more into another page (R306). -/
theorem branch_eq (c : Bool) (s : State) :
    branch c s =
      let target := s.cpu.pc + s.cpu.addrRel
      if c then (s.setPc target, if target.toNat / 256 = s.cpu.pc.toNat / 256 then 1 else 2) else (s, 0) := by
  unfold branch
  simp only [pageCrossed_eq, decide_eq_true_eq]
  by_cases h : (s.cpu.pc + s.cpu.addrRel).toNat / 256 = s.cpu.pc.toNat / 256
  · rw [if_pos h, if_neg (not_not.mpr h)]
  · rw [if_neg h, if_pos h]

/-- Settles O22. -/
theorem branchesFollowTheirFlag : Obligations.BranchesFollowTheirFlag := by
  intro i s hm taken offset target
  have hexec := exec_branch_next i s hm
  simp only [branchTest_setAddrRel, branch_eq, State.setAddrRel_cpu_pc, State.setAddrRel_cpu_addrRel,
    State.setDmaStall_cpu_pc, show sext16 i.operand1 = offset from rfl, show s.cpu.pc + offset = target from rfl]
    at hexec
  clear_value target offset
  cases hcond : branchTest i.operation s with
  | false =>
    have htaken : taken = false := hcond
    simp only [hcond, Bool.false_eq_true, if_false] at hexec
    refine ⟨_, hexec, ?_⟩
    simp only [htaken, Bool.false_eq_true, if_false]
    exact ⟨by simp [RegistersAre], by simp, by simp [SameLatches], by simp, by simp, by simp, by simp, by simp,
      by simp [SameOutside, SameDevices], SameOutside.bytes (by simp [SameOutside, SameDevices])⟩
  | true =>
    have htaken : taken = true := hcond
    simp only [hcond, if_true] at hexec
    refine ⟨_, hexec, ?_⟩
    simp only [htaken, if_true]
    refine ⟨by simp [RegistersAre], by simp, by simp [SameLatches], by simp, by simp, by simp, by simp, ?_,
      by simp [SameOutside, SameDevices], SameOutside.bytes (by simp [SameOutside, SameDevices])⟩
    by_cases hpage : target.toNat / 256 = s.cpu.pc.toNat / 256 <;> simp [hpage]

/-! ## Interrupt entry and BRK (R302, R404, R410) -/

theorem sub_three (sp : Byte) : sp - 1 - 1 - 1 = sp - 3 := by bv_omega

section
variable (v : Word) (b : Bool) (s : State) (h : 0x4020 ≤ v.toNat) (h' : v.toNat < 0xFFFF)
include h h'

theorem interrupt_devices : SameDevices s (interrupt v b s) ∧ (interrupt v b s).cart = s.cart := by
  rw [interrupt_cartridge v b s h h']
  simp [SameDevices]

/-- PC high, PC low and P lie on the stack after an interrupt entry. -/
theorem interrupt_pushed (hram : s.ram.wf = true) :
    PushedBytes s (interrupt v b s)
      [(s.cpu.sp - 2, pushedP b s.cpu.p), (s.cpu.sp - 1, BitVec.ofNat 8 (s.cpu.pc.toNat % 256)),
        (s.cpu.sp, BitVec.ofNat 8 (s.cpu.pc.toNat / 256))] := by
  have hword := pushWord_pushed s.cpu.pc s s hram (SameOutside.refl s)
  have hwf : (pushWord s.cpu.pc s).ram.wf = true := by
    rw [pushWord]
    exact push_ram_wf _ _ (push_ram_wf _ _ hram)
  have hall := push_pushed (pushedP b s.cpu.p) s (pushWord s.cpu.pc s) _ hwf hword
  rw [pushWord_cpu, loByte_eq, hiByte_eq, pushWord] at hall
  rw [interrupt_cartridge v b s h h']
  generalize push (pushedP b s.cpu.p) _ = u at *
  exact hall.same (sameOutside_withCpu _ u)

theorem interrupt_target (u : State) (hu : u.cart = s.cart) :
    (interrupt v b s).cpu.pc = BitVec.ofNat 16 (256 * (memRead (v + 1) u).2.toNat + (memRead v u).2.toNat) := by
  rw [interrupt_cpu v b s h h', memRead_cartridge v u h, memRead_cartridge (v + 1) u (by bv_omega), mkWord_eq]
  unfold State.cartRead
  rw [hu]

end

set_option maxRecDepth 100000 in
theorem brk_row (i : Instr) (h : i.operation = .brk) : i.mode = .imp ∧ i.row.cycles = 7 :=
  all_rows (q := fun r => r.operation = .brk → r.mode = .imp ∧ r.cycles = 7) (by decide) i h

/-- Settles O21. -/
theorem brkEntersTheIrqVector : Obligations.BrkEntersTheIrqVector := by
  intro i s h ret
  obtain ⟨hmode, hcycles⟩ := brk_row i h
  refine completes_implied i s .brk h (by decide) hmode _ ?_
  have hout : SameOutside s ((s.setDmaStall 0).setPc ret) := sameOutside_withCpu _ s
  have hcpu := interrupt_cpu irqVector true ((s.setDmaStall 0).setPc ret) (by decide) (by decide)
  have htarget := interrupt_target irqVector true ((s.setDmaStall 0).setPc ret) (by decide) (by decide) s rfl
  obtain ⟨hdev, hcart⟩ := interrupt_devices irqVector true ((s.setDmaStall 0).setPc ret) (by decide) (by decide)
  have hpushed := fun hm : s.MemoriesOk =>
    interrupt_pushed irqVector true ((s.setDmaStall 0).setPc ret) (by decide) (by decide) hm.1.1
  rw [hcycles, show operationOf .brk .memory (s.setDmaStall 0) =
    interrupt irqVector true ((s.setDmaStall 0).setPc ret) from rfl]
  generalize interrupt irqVector true ((s.setDmaStall 0).setPc ret) = u at *
  have hflag (f : Flag) : (finishCycles 7 u).flag f = if f = .i then true else s.flag f := by
    rw [flag_finishCycles, State.flag, hcpu]
    exact flagOf_withI f s.cpu.p
  refine ⟨?_, hflag .i, fun f hf => ?_, ?_, hout.1.trans hdev, hcart, fun hm => ?_⟩
  · exact ⟨by simp [hcpu], by simp [hcpu], by simp [hcpu],
      by rw [finishCycles_cpu_sp, hcpu]; exact sub_three _, htarget⟩
  · rw [hflag, if_neg (by simpa using hf)]
  · simp [Ends, SameLatches, SameWorking, hcpu]
  · rw [← pushedP_true]
    exact ((hpushed hm).start hout).same (sameOutside_withCpu _ u)

/-- The entry sequence at a boundary, the NMI first; an IRQ finds the NMI latch clear (R404). -/
theorem cpuClock_interrupt (s : State) (hcycles : s.cpu.cycles = 0)
    (h : s.cpu.nmiPending = true ∨ (s.cpu.irqPending = true ∧ s.flag .i = false)) :
    cpuClock s = .next (closeBoundary ((interrupt (if s.cpu.nmiPending then 0xFFFA else 0xFFFE) false
      (s.setNmiPending false)).setCycles 7)) := by
  unfold cpuClock
  rw [if_pos hcycles]
  obtain ⟨hnmi, hb⟩ | ⟨hnmi, hirq, hb⟩ | ⟨hnmi, hirq, -⟩ := boundary_cases s
  · rw [hb, hnmi]
    rfl
  · have hlatch : s.setNmiPending false = s := by rw [← hnmi]; rfl
    rw [hb, hnmi, hlatch]
    rfl
  · obtain h | ⟨hline, hmask⟩ := h
    · rw [hnmi] at h; cases h
    · have htaken : s.irqTaken = true := by
        have hflag : flagOf .i s.cpu.p = false := hmask
        simp [State.irqTaken, hline, hflag]
      rw [hirq] at htaken
      cases htaken

/-- Settles O28. -/
theorem interruptEntryAtABoundary : Obligations.InterruptEntryAtABoundary := by
  intro s hcycles h vector
  refine ⟨_, cpuClock_interrupt s hcycles h, ?_⟩
  change RegistersAre (closeBoundary ((interrupt vector false (s.setNmiPending false)).setCycles 7)) _ _ _ _ _ ∧ _
  have hvec : 0x4020 ≤ vector.toNat ∧ vector.toNat < 0xFFFF := by
    dsimp only [vector]
    split <;> decide
  have hout : SameOutside s (s.setNmiPending false) := sameOutside_withCpu _ s
  have hcpu := interrupt_cpu vector false (s.setNmiPending false) hvec.1 hvec.2
  have htarget := interrupt_target vector false (s.setNmiPending false) hvec.1 hvec.2 s rfl
  obtain ⟨hdev, hcart⟩ := interrupt_devices vector false (s.setNmiPending false) hvec.1 hvec.2
  have hpushed := fun hm : s.MemoriesOk =>
    interrupt_pushed vector false (s.setNmiPending false) hvec.1 hvec.2 hm.1.1
  generalize interrupt vector false (s.setNmiPending false) = u at *
  have hend : (closeBoundary (u.setCycles 7)).cpu =
      { u.cpu with p := withU u.cpu.p, cycles := 6, totalCycles := u.cpu.totalCycles + 1 } := rfl
  have hflag (f : Flag) : (closeBoundary (u.setCycles 7)).flag f =
      if f = .u then true else if f = .i then true else s.flag f := by
    rw [State.flag, hend, flagOf_withU, hcpu]
    dsimp only
    rw [flagOf_withI]
    rfl
  have hquiet : SameOutside u (closeBoundary (u.setCycles 7)) := sameOutside_withCpu _ u
  refine ⟨?_, hflag .i, hflag .u, fun f hf => ?_, ?_, ?_, ?_, ?_, ?_, ?_, hout.1.trans (hdev.trans hquiet.1),
    hquiet.2.2.trans hcart, fun hm => ?_⟩
  · rw [RegistersAre, hend, htarget, hcpu]
    exact ⟨rfl, rfl, rfl, sub_three _, rfl⟩
  · simp at hf
    simp [hflag, hf]
  · rw [hend, hcpu]
    rfl
  · rw [hend, hcpu]
    rfl
  · rw [hend, hcpu]
    rfl
  · rw [SameWorking, hend, hcpu]
    exact ⟨rfl, rfl, rfl⟩
  · rw [hend]
  · rw [hend, hcpu]
    rfl
  · rw [← pushedP_false]
    exact ((hpushed hm).start hout).same hquiet

/-! ## The returns undo the entries (R302 to R304, R410, R412) -/

/-- A byte of the stack after pushes: the newest entry of its address. -/
theorem PushedBytes.stackByte {s t : State} {l : List (Byte × Byte)} (h : PushedBytes s t l) (sp : Byte) :
    t.stackByte sp = ((l.find? fun c => decide (sp = c.1)).map Prod.snd).getD (s.stackByte sp) := by
  have hpred : (fun c : Byte × Byte => decide (Space.ram = Space.ram ∧ 256 + sp.toNat = 256 + c.1.toNat)) =
      fun c => decide (sp = c.1) := by
    funext c
    apply decide_eq_decide.mpr
    rw [← BitVec.toNat_inj, Nat.add_left_cancel_iff]
    exact ⟨fun h => h.2, fun h => ⟨rfl, h⟩⟩
  rw [State.stackByte, h .ram (256 + sp.toNat), hpred]
  cases l.find? fun c => decide (sp = c.1) <;> rfl

theorem bytes_of_word (w : Word) :
    256 * (BitVec.ofNat 8 (w.toNat / 256)).toNat + (BitVec.ofNat 8 (w.toNat % 256)).toNat = w.toNat := by
  rw [← hiByte_eq, ← loByte_eq, hiByte_toNat, loByte_toNat]
  omega

theorem address_jsr (w : Word) (s : State) : (Instr.jsr w).address s = w := by
  have haccess : (Instr.jsr w).accessIn s = modeAbs w (s.setDmaStall 0) :=
    congrFun (access_abs w) (s.setDmaStall 0)
  rw [Instr.address, haccess]
  rfl

/-- Settles O30. -/
theorem returnsUndoCallsAndInterrupts : Obligations.ReturnsUndoCallsAndInterrupts := by
  intro s hm
  constructor
  · intro w
    obtain ⟨t, hexec, ⟨ha, hx, hy, hsp, hpc⟩, hp, -, -, -, hpushed⟩ := (jumpsSetPc (.jsr w) s).2 rfl
    obtain ⟨u, hexec', ⟨ha', hx', hy', hsp', hpc'⟩, hp', -⟩ := (returnsPullPc .rts t).1 rfl
    have hlow : t.stackByte (t.cpu.sp + 1) = BitVec.ofNat 8 ((s.cpu.pc - 1).toNat % 256) := by
      rw [(hpushed hm).stackByte, hsp, show s.cpu.sp - 2 + 1 = s.cpu.sp - 1 by bv_omega]
      simp
    have hhigh : t.stackByte (t.cpu.sp + 2) = BitVec.ofNat 8 ((s.cpu.pc - 1).toNat / 256) := by
      rw [(hpushed hm).stackByte, hsp, show s.cpu.sp - 2 + 2 = s.cpu.sp by bv_omega]
      rw [List.find?_cons_of_neg (by simpa using (by bv_omega : s.cpu.sp ≠ s.cpu.sp - 1)),
        List.find?_cons_of_pos (by simp)]
      rfl
    refine ⟨t, u, hexec, hpc.trans (address_jsr w s), hexec', ⟨ha'.trans ha, hx'.trans hx, hy'.trans hy, ?_, ?_⟩,
      hp'.trans hp⟩
    · rw [hsp', hsp]
      bv_omega
    · rw [hpc', hlow, hhigh, bytes_of_word]
      bv_omega
  · intro vector b h h'
    have hcpu := interrupt_cpu vector b s h h'
    have hpushed := interrupt_pushed vector b s h h' hm.1.1
    generalize interrupt vector b s = t at *
    obtain ⟨u, hexec, ⟨ha, hx, hy, hsp, hpc⟩, ⟨hflagB, hflagU, hflag⟩, -⟩ := (returnsPullPc .rti t).2 rfl
    have htsp : t.cpu.sp = s.cpu.sp - 3 := by rw [hcpu]; exact sub_three _
    have hbyte1 : t.stackByte (t.cpu.sp + 1) = pushedP b s.cpu.p := by
      rw [hpushed.stackByte, htsp, show s.cpu.sp - 3 + 1 = s.cpu.sp - 2 by bv_omega]
      simp
    have hbyte2 : t.stackByte (t.cpu.sp + 2) = BitVec.ofNat 8 (s.cpu.pc.toNat % 256) := by
      rw [hpushed.stackByte, htsp, show s.cpu.sp - 3 + 2 = s.cpu.sp - 1 by bv_omega]
      rw [List.find?_cons_of_neg (by simp),
        List.find?_cons_of_pos (by simp)]
      rfl
    have hbyte3 : t.stackByte (t.cpu.sp + 3) = BitVec.ofNat 8 (s.cpu.pc.toNat / 256) := by
      rw [hpushed.stackByte, htsp, show s.cpu.sp - 3 + 3 = s.cpu.sp by bv_omega]
      rw [List.find?_cons_of_neg (by simpa using (by bv_omega : s.cpu.sp ≠ s.cpu.sp - 2)),
        List.find?_cons_of_neg (by simpa using (by bv_omega : s.cpu.sp ≠ s.cpu.sp - 1)),
        List.find?_cons_of_pos (by simp)]
      rfl
    refine ⟨u, hexec, ⟨by rw [ha, hcpu], by rw [hx, hcpu], by rw [hy, hcpu], ?_, ?_⟩, hflagB, hflagU, fun f hf => ?_⟩
    · rw [hsp, htsp]
      bv_omega
    · rw [hpc, hbyte2, hbyte3, bytes_of_word]
      simp
    · simp at hf
      rw [hflag f hf.1 hf.2, hbyte1, flagOf_pushedP, if_neg hf.1, if_neg hf.2]
      rfl

end Sys2Proof.Machine
end

section
/-! PROOF. The stores and the instructions that read, change and write one byte (41_load_store_transfer.md section 2,
43_arith_logic.md section 5, 44_shift_rotate.md, 47_unofficial.md section 1). -/

namespace Sys2Proof.Machine

/-! ## Stores -/

/-- The stores are ordinary instructions, and storing ones. -/
theorem store_operation : ∀ o ∈ ([.sta, .stx, .sty, .sax] : List Operation),
    o ∉ ([.nop, .xaa, .lxa, .bpl, .bmi, .bvc, .bvs, .bcc, .bcs, .bne, .beq] : List Operation) ∧
    o ∈ ([.sta, .stx, .sty, .sax, .inc, .dec, .slo, .rla, .sre, .rra, .isc, .dcp] : List Operation) := by
  decide

/-- A store completes: the byte `v` goes to the effective address and no register changes. -/
theorem completes_store (i : Instr) (s : State) (v : Byte) (o : Operation) (h : i.operation = o)
    (ho : o ∈ ([.sta, .stx, .sty, .sax] : List Operation))
    (hop : operationOf o .memory (i.accessIn s).state = memWrite (i.address s) v (i.accessIn s).state) :
    let at0 := (i.accessIn s).state
    Completes i s fun t =>
      RegistersAre t s.cpu.a s.cpu.x s.cpu.y s.cpu.sp s.cpu.pc ∧ t.cpu.p = s.cpu.p ∧
      Ends s at0 t (i.row.cycles + s.stallAt (i.address s)) ∧
      Stored s (memWrite (i.address s) v at0) t (i.address s) v := by
  intro at0
  obtain ⟨hordinary, hstoring⟩ := store_operation o ho
  obtain ⟨himm, hacc, -, hind, -, hpays⟩ := storing_row i (by rw [h]; exact hstoring)
  refine completes_of i s o h hordinary _ ?_
  rw [operand_memory i s himm hacc, hop, cost_of_notPaying i s hpays]
  have hb := prepared_accessIn i s
  obtain ⟨ha, hx, hy, hsp, hpc⟩ := hb.registers
  have hlatches := hb.latches
  have hcpu := memWrite_cpu (i.address s) v (i.accessIn s).state
  have hstored := stored_of s (i.accessIn s).state
    (finishCycles i.row.cycles (memWrite (i.address s) v (i.accessIn s).state)) (i.address s) v hb.2
    (fun _ => accessIn_outside i s hind) (sameOutside_withCpu _ _)
  generalize memWrite (i.address s) v (i.accessIn s).state = u at *
  refine ⟨?_, ?_, ⟨?_, ?_, ?_, rfl⟩, hstored⟩
  · simp [RegistersAre, hcpu, ha, hx, hy, hsp, hpc]
  · simp [hcpu, hb.p]
  · simpa [SameLatches, hcpu] using hlatches
  · simp [SameWorking, hcpu, at0]
  · simp [hcpu, stallAfter, State.stallAt, hb.dmaStall, hlatches.2.2.2]

/-- Settles O12. -/
theorem storesWriteTheirRegister : Obligations.StoresWriteTheirRegister := by
  intro i s ho at0 v
  obtain ⟨ha, hx, hy, -, -⟩ := (prepared_accessIn i s).registers
  obtain h | h | h | h := ho
  · exact completes_store i s v .sta h (by decide) (by rw [show v = s.cpu.a by simp [v, h], ← ha]; rfl)
  · exact completes_store i s v .stx h (by decide) (by rw [show v = s.cpu.x by simp [v, h], ← hx]; rfl)
  · exact completes_store i s v .sty h (by decide) (by rw [show v = s.cpu.y by simp [v, h], ← hy]; rfl)
  · exact completes_store i s v .sax h (by decide)
      (by rw [show v = s.cpu.a &&& s.cpu.x by simp [v, h], ← ha, ← hx]; rfl)

/-! ## Read, modify, write on memory -/

/-- The state after the write of a read-modify-write: `v` is stored while P is `p`. -/
def writtenIn (i : Instr) (v p : Byte) (s : State) : State :=
  memWrite (i.address s) v ((i.loadIn s).1.setP p)

theorem writtenIn_registers (i : Instr) (v p : Byte) (s : State) :
    (writtenIn i v p s).cpu.a = s.cpu.a ∧ (writtenIn i v p s).cpu.p = p := by
  have ha := (prepared_loadIn i s).registers.1
  unfold writtenIn
  rw [memWrite_cpu]
  exact ⟨ha, rfl⟩

/-- A read-modify-write on memory whose operation stores `v` and then works on registers and P by `f`. -/
theorem completes_modify (i : Instr) (s : State) (o : Operation) (h : i.operation = o)
    (ho : o ∈ ([.asl, .lsr, .rol, .ror, .inc, .dec, .slo, .rla, .sre, .rra, .isc, .dcp] : List Operation))
    (hm : i.mode ≠ .acc) (g k : State × Byte → Byte) (f : Byte → State → State)
    (hop : ∀ st, operationOf o .memory st =
      f (g (load .memory st)) (store .memory (g (load .memory st)) ((load .memory st).1.setP (k (load .memory st)))))
    (v p a2 p2 : Byte) (hv : g (i.loadIn s) = v) (hp : k (i.loadIn s) = p)
    (hf : f v (writtenIn i v p s) = ((writtenIn i v p s).setA a2).setP p2) :
    Completes i s fun t =>
      RegistersAre t a2 s.cpu.x s.cpu.y s.cpu.sp s.cpu.pc ∧ (∀ f, t.flag f = flagOf f p2) ∧
      Ends s (i.loadIn s).1 t (i.row.cycles + s.stallAt (i.address s)) ∧
      Stored s (memWrite (i.address s) v (i.loadIn s).1) t (i.address s) v := by
  refine completes_rmw i s o h ho hm v p a2 p2 ?_ _ fun t hregs htp hends hstored =>
    ⟨hregs, fun f => congrArg (flagOf f) htp, hends, hstored⟩
  rw [hop, load_memory i s (rmw_row i (by rw [h]; exact ho)).1 hm, hv, hp]
  have hstore : store .memory v ((i.loadIn s).1.setP p) = writtenIn i v p s := by
    unfold writtenIn
    rw [← loadIn_addrAbs]
    rfl
  rw [hstore]
  exact hf

/-- A byte result sets Z and N, whatever A is. -/
theorem flagsNZ_writtenIn (i : Instr) (s : State) (v p r a : Byte) :
    flagsNZ r ((writtenIn i v p s).setA a) = ((writtenIn i v p s).setA a).setP (resultP r p) := by
  rw [flagsNZ_eq_setP, State.setA_cpu_p, (writtenIn_registers i v p s).2]

/-- The same when A stays. -/
theorem flagsNZ_writtenIn_self (i : Instr) (s : State) (v p r : Byte) :
    flagsNZ r (writtenIn i v p s) = ((writtenIn i v p s).setA s.cpu.a).setP (resultP r p) := by
  rw [← flagsNZ_writtenIn, ← (writtenIn_registers i v p s).1]
  rfl

/-! ## Shifts and rotates (R291 to R294) -/

/-- The byte a shift leaves, from the state after the data read and the byte read. -/
def shiftByte (o : Operation) (r : State × Byte) : Byte := BitVec.ofNat 8 (shiftResult o (r.1.flag .c) r.2).1

/-- P with the carry a shift leaves. -/
def shiftP (o : Operation) (r : State × Byte) : Byte :=
  putFlag .c (shiftResult o (r.1.flag .c) r.2).2 r.1.cpu.p

theorem operationOf_shift (o : Operation) (h : o = .asl ∨ o = .lsr ∨ o = .rol ∨ o = .ror) (d : Operand) (st : State) :
    operationOf o d st =
      flagsNZ (shiftByte o (load d st))
        (store d (shiftByte o (load d st)) ((load d st).1.setP (shiftP o (load d st)))) := by
  obtain rfl | rfl | rfl | rfl := h
  · simp only [operationOf, opAsl, shiftLeft_eq ((load d st).1.flag .c)]
    rfl
  · simp only [operationOf, opLsr, shiftRight_eq ((load d st).1.flag .c)]
    rfl
  · simp only [operationOf, opRol, rotateLeft_eq]
    rfl
  · simp only [operationOf, opRor, rotateRight_eq]
    rfl

/-- A shift of A completes. -/
theorem completes_shiftAcc (i : Instr) (s : State) (o : Operation) (h : i.operation = o)
    (ho : o = .asl ∨ o = .lsr ∨ o = .rol ∨ o = .ror) (hm : i.mode = .acc) :
    let v := shiftByte o (i.loadIn s)
    Completes i s fun t =>
      RegistersAre t v s.cpu.x s.cpu.y s.cpu.sp s.cpu.pc ∧
      (∀ f, t.flag f = flagOf f (resultP v (shiftP o (i.loadIn s)))) ∧
      Ends s (i.loadIn s).1 t i.row.cycles ∧ SameOutside s t ∧ SameBytes s t := by
  intro v
  have hpays := (rmw_row i (by rw [h]; rcases ho with rfl | rfl | rfl | rfl <;> decide)).2.2
  have hoperand : (i.accessIn s).operand = .accumulator := by
    unfold Instr.accessIn
    rw [hm]
    rfl
  have hload : load .accumulator (i.accessIn s).state = i.loadIn s := by rw [Instr.loadIn, hoperand]
  have hb := prepared_loadIn i s
  obtain ⟨-, hx, hy, hsp, hpc⟩ := hb.registers
  obtain ⟨t, hexec, hregs, hp, hends, hout, hbytes⟩ := completes_registersOnly i s (i.loadIn s).1
    (flagsNZ v (((i.loadIn s).1.setP (shiftP o (i.loadIn s))).setA v)) o h
    (by rcases ho with rfl | rfl | rfl | rfl <;> decide) hb
    (by rw [operationOf_shift o ho, hoperand, hload]; rfl)
    rfl
  rw [cost_of_notPaying i s hpays] at hends
  exact ⟨t, hexec, by simpa [hx, hy, hsp, hpc] using hregs, fun f => congrArg (flagOf f) hp, hends,
    (loadIn_acc_outside i s hm).trans hout, hbytes⟩

/-- INC and DEC store the counted byte and take its Z and N. -/
theorem completes_count (i : Instr) (s : State) (o : Operation) (h : i.operation = o) (ho : o = .inc ∨ o = .dec)
    (g : State × Byte → Byte) (v : Byte) (hv : g (i.loadIn s) = v)
    (hop : ∀ st, operationOf o .memory st =
      flagsNZ (g (load .memory st)) (store .memory (g (load .memory st)) (load .memory st).1)) :
    Completes i s fun t =>
      RegistersAre t s.cpu.a s.cpu.x s.cpu.y s.cpu.sp s.cpu.pc ∧ FlagsOfResult t v ∧ FlagsKeptBut [.z, .n] s t ∧
      Ends s (i.loadIn s).1 t (i.row.cycles + s.stallAt (i.address s)) ∧
      Stored s (memWrite (i.address s) v (i.loadIn s).1) t (i.address s) v := by
  have hm := (storing_row i (by rw [h]; rcases ho with rfl | rfl <;> decide)).2.1
  obtain ⟨t, hexec, hregs, hflag, hframe⟩ := completes_modify i s o h (by rcases ho with rfl | rfl <;> decide) hm g
    (fun r => r.1.cpu.p) flagsNZ hop v s.cpu.p s.cpu.a _ hv (prepared_loadIn i s).p (flagsNZ_writtenIn_self i s v _ v)
  simp only [flagOf_resultP, flagOf_p] at hflag
  refine ⟨t, hexec, hregs, ⟨hflag .z, hflag .n⟩, fun f hf => ?_, hframe⟩
  simp at hf
  simp [hflag, hf]

/-- Settles O18. -/
theorem readModifyWriteInstructions : Obligations.ReadModifyWriteInstructions := by
  intro i s r
  have hb := prepared_loadIn i s
  constructor
  · intro ho e v
    obtain ⟨o, h⟩ : ∃ o, i.operation = o := ⟨_, rfl⟩
    rw [h] at ho
    have hv : shiftByte o r = v := by simp only [shiftByte, v, e, h, hb.flag, r]
    have hp : shiftP o r = putFlag .c e.2 s.cpu.p := by simp only [shiftP, e, h, hb.flag, hb.p, r]
    have hflags (t : State) (hflag : ∀ f, t.flag f = flagOf f (resultP v (putFlag .c e.2 s.cpu.p))) :
        t.flag .c = e.2 ∧ FlagsOfResult t v ∧ FlagsKeptBut [.c, .z, .n] s t := by
      simp only [flagOf_resultP, flagOf_putFlag, flagOf_p] at hflag
      refine ⟨hflag .c, ⟨hflag .z, hflag .n⟩, fun f hf => ?_⟩
      simp at hf
      simp [hflag, hf]
    by_cases hm : i.mode = .acc
    · obtain ⟨t, hexec, hregs, hflag, hframe⟩ := completes_shiftAcc i s o h ho hm
      rw [show i.loadIn s = r from rfl, hv] at hregs hflag
      rw [hp] at hflag
      obtain ⟨hc, hresult, hkept⟩ := hflags t hflag
      refine ⟨t, hexec, ?_, hc, hresult, hkept, ?_⟩
      · rw [if_pos hm]; exact hregs
      · rw [if_pos hm]; exact hframe
    · obtain ⟨t, hexec, hregs, hflag, hframe⟩ := completes_modify i s o h
        (by rcases ho with rfl | rfl | rfl | rfl <;> decide) hm (shiftByte o) (shiftP o) flagsNZ
        (operationOf_shift o ho .memory) v _ s.cpu.a _ hv hp
        (flagsNZ_writtenIn_self i s v _ v)
      obtain ⟨hc, hresult, hkept⟩ := hflags t hflag
      refine ⟨t, hexec, ?_, hc, hresult, hkept, ?_⟩
      · rw [if_neg hm]; exact hregs
      · rw [if_neg hm]; exact hframe
  · intro ho v
    obtain h | h := ho
    · exact completes_count i s .inc h (.inl rfl) (fun r => r.2 + 1) v (by simp [v, h, r]) fun st => rfl
    · exact completes_count i s .dec h (.inr rfl) (fun r => r.2 - 1) v (by simp [v, h, r]) fun st => rfl

/-! ## Modify and combine (R340 to R348) -/

/-- How SLO, RLA and SRE combine the shifted byte into A. -/
def combine (o : Operation) (a v : Byte) : Byte :=
  if o = .slo then a ||| v else if o = .rla then a &&& v else a ^^^ v

theorem operationOf_combine (o : Operation) (h : o = .slo ∨ o = .rla ∨ o = .sre) (st : State) :
    operationOf o .memory st =
      (fun (v : Byte) (w : State) => flagsNZ (combine o w.cpu.a v) (w.setA (combine o w.cpu.a v)))
        (shiftByte o (load .memory st))
        (store .memory (shiftByte o (load .memory st)) ((load .memory st).1.setP (shiftP o (load .memory st)))) := by
  obtain rfl | rfl | rfl := h
  · simp only [operationOf, opSlo, shiftLeft_eq ((load .memory st).1.flag .c)]
    rfl
  · simp only [operationOf, opRla, rotateLeft_eq]
    rfl
  · simp only [operationOf, opSre, shiftRight_eq ((load .memory st).1.flag .c)]
    rfl

/-- Settles O25. -/
theorem modifyAndCombineOpcodes : Obligations.ModifyAndCombineOpcodes := by
  intro i s r
  have hb := prepared_loadIn i s
  constructor
  · intro ho e v a
    obtain ⟨o, h⟩ : ∃ o, i.operation = o := ⟨_, rfl⟩
    rw [h] at ho
    have hm := (storing_row i (by rw [h]; rcases ho with rfl | rfl | rfl <;> decide)).2.1
    have hv : shiftByte o r = v := by simp only [shiftByte, v, e, h, hb.flag, r]
    have hp : shiftP o r = putFlag .c e.2 s.cpu.p := by simp only [shiftP, e, h, hb.flag, hb.p, r]
    have ha : combine o s.cpu.a v = a := by simp only [combine, a, h]
    obtain ⟨t, hexec, hregs, hflag, hframe⟩ := completes_modify i s o h
      (by rcases ho with rfl | rfl | rfl <;> decide) hm (shiftByte o) (shiftP o)
      (fun v w => flagsNZ (combine o w.cpu.a v) (w.setA (combine o w.cpu.a v)))
      (operationOf_combine o ho) v _ a _ hv hp (by
        rw [(writtenIn_registers i v _ s).1, ha, flagsNZ_writtenIn])
    simp only [flagOf_resultP, flagOf_putFlag, flagOf_p] at hflag
    refine ⟨t, hexec, hregs, hflag .c, ⟨hflag .z, hflag .n⟩, fun f hf => ?_, hframe⟩
    simp at hf
    simp [hflag, hf]
  · intro h v
    have hm := (storing_row i (by rw [h]; decide)).2.1
    obtain ⟨ha, hp⟩ := writtenIn_registers i v s.cpu.p s
    obtain ⟨p, heq, hc, hz, hn, hkept⟩ := compare_spec s.cpu.a v (writtenIn i v s.cpu.p s)
    obtain ⟨t, hexec, hregs, hflag, hframe⟩ := completes_modify i s .dcp h (by decide) hm (fun r => r.2 - 1)
      (fun r => r.1.cpu.p) (fun v w => compare w.cpu.a v w) (fun st => rfl) v s.cpu.p s.cpu.a p rfl hb.p (by
        rw [ha, heq, ← ha]
        rfl)
    refine ⟨t, hexec, hregs, (hflag _).trans hc, (hflag _).trans hz, (hflag _).trans hn, fun f hf => ?_, hframe⟩
    rw [hflag, hkept f hf, State.flag, hp]
    rfl

/-- RRA and ISC store a byte `v` and then add `f v` with the carry in the P of the write. -/
theorem completes_modify_add (i : Instr) (s : State) (o : Operation) (h : i.operation = o) (ho : o = .rra ∨ o = .isc)
    (g k : State × Byte → Byte) (f : Byte → Byte)
    (hop : ∀ st, operationOf o .memory st = addCore (f (g (load .memory st)))
      (store .memory (g (load .memory st)) ((load .memory st).1.setP (k (load .memory st)))))
    (v p : Byte) (hv : g (i.loadIn s) = v) (hp : k (i.loadIn s) = p)
    (hsame : ∀ f, f ≠ .c → flagOf f p = s.flag f) :
    let c := (flagOf .c p).toNat
    let signed : Int := s.cpu.a.toInt + (f v).toInt + c
    Completes i s fun t =>
      RegistersAre t (BitVec.ofInt 8 signed) s.cpu.x s.cpu.y s.cpu.sp s.cpu.pc ∧
      t.flag .c = decide (255 < s.cpu.a.toNat + (f v).toNat + c) ∧
      t.flag .v = decide (signed < -128 ∨ 127 < signed) ∧ FlagsOfResult t (BitVec.ofInt 8 signed) ∧
      FlagsKeptBut [.c, .z, .v, .n] s t ∧
      Ends s (i.loadIn s).1 t (i.row.cycles + s.stallAt (i.address s)) ∧
      Stored s (memWrite (i.address s) v (i.loadIn s).1) t (i.address s) v := by
  intro c signed
  have hm := (storing_row i (by rw [h]; rcases ho with rfl | rfl <;> decide)).2.1
  obtain ⟨hwa, hwp⟩ := writtenIn_registers i v p s
  obtain ⟨p2, heq, hc, hov, hz, hn, hkept⟩ := addCore_spec (f v) (writtenIn i v p s)
  have hwflag (f : Flag) : (writtenIn i v p s).flag f = flagOf f p := congrArg (flagOf f) hwp
  rw [hwa, hwflag] at heq hc hov hz hn
  obtain ⟨t, hexec, hregs, hflag, hframe⟩ := completes_modify i s o h (by rcases ho with rfl | rfl <;> decide) hm g k
    (fun v w => addCore (f v) w) hop v p _ p2 hv hp heq
  refine ⟨t, hexec, hregs, (hflag _).trans hc, (hflag _).trans hov, ⟨(hflag _).trans hz, (hflag _).trans hn⟩,
    fun f hf => ?_, hframe⟩
  rw [hflag, hkept f hf, hwflag, hsame f (by simp at hf; exact hf.1)]

/-- Settles O26. -/
theorem rotateAddAndIncrementSubtractOpcodes : Obligations.RotateAddAndIncrementSubtractOpcodes := by
  intro i s ho r e v c signed
  have hb := prepared_loadIn i s
  obtain h | h := ho
  · have hv : shiftByte .rra r = v := by simp only [shiftByte, v, e, h, hb.flag, r, if_true]
    have hp : shiftP .rra r = putFlag .c e.2 s.cpu.p := by simp only [shiftP, e, hb.flag, hb.p, r]
    have hc := completes_modify_add i s .rra h (.inl rfl) (shiftByte .rra) (shiftP .rra) id
      (fun st => by simp only [operationOf, opRra, rotateRight_eq]; rfl) v _ hv hp
      (fun f hf => by rw [flagOf_putFlag, if_neg hf]; rfl)
    rw [flagOf_putFlag] at hc
    simpa [h, c, signed] using hc
  · have hv : r.2 + 1 = v := by simp [v, h]
    have hc := completes_modify_add i s .isc h (.inr rfl) (fun r => r.2 + 1) (fun r => r.1.cpu.p) (· ^^^ 0xFF)
      (fun st => rfl) v s.cpu.p hv hb.p (fun f _ => rfl)
    dsimp only at hc
    rw [complement_signed, complement_carry, flagOf_p] at hc
    simpa [h, c, signed] using hc

end Sys2Proof.Machine
end
